-- ==== Sys2Proof/Word.lean ====
section
/-! DEFINITION. The word types of the part: bytes and 16-byte blocks (00_scope.md, "Bytes and fields"; R53). -/

namespace Sys2Proof

/-- A byte is 8 bits (00_scope.md). -/
abbrev Byte := BitVec 8

/-- A 16-byte block or key of the block transform (R53). -/
abbrev Block := BitVec 128

end Sys2Proof
end

