-- ==== Sys2Proof/Syntax.lean ====
section
/-! DEFINITION. The commands of the block: one constructor per row of spec/opcode_table.json. -/

namespace Sys2Proof

/-- The three port links (00_scope.md, "Links"). -/
inductive Port where
  | a
  | b
  | k
  deriving DecidableEq, Repr

/-- A trunk cell of 64 bytes as R48 divides it: header, the three payload blocks C0, C1 and C2, and the tag.
The first byte of each part is its most significant one. -/
structure Cell where
  header : BitVec 64
  c0 : Block
  c1 : Block
  c2 : Block
  tag : BitVec 64
  deriving DecidableEq, Repr

/-- One piece of the work that a tick brings to one record or one port (R28). The manual sets no order among
them, so the events that make ticks name the pieces that are taken first. -/
inductive TickWork where
  /-- an OPENING channel becomes KEYING (R11, R116) -/
  | keyingEntry (c : Fin 48)
  /-- a CLOSING channel becomes CLOSED (R14) -/
  | closingEnd (c : Fin 48)
  /-- the AGE comparison of the tick (R102) -/
  | ageTrigger (c : Fin 48)
  /-- a start at a hold-off that stands at 0 (R103, R104) -/
  | holdOffEnd (c : Fin 48)
  /-- expiry of the offer timer (R107) -/
  | offerExpiry (c : Fin 48)
  /-- expiry of the resync timer (R76) -/
  | resyncExpiry (c : Fin 48)
  /-- expiry of the cutover timer (R115) -/
  | cutoverExpiry (c : Fin 48)
  /-- closure by silence (R148) -/
  | silence (c : Fin 48)
  /-- scoring at the period end (R141) -/
  | score (c : Fin 48)
  /-- expiry of the presence timer (R173) -/
  | presence (p : Port)
  deriving DecidableEq, Repr

/-- When the load event of the slot that a boundary begins is taken: with the boundary, or later in the slot. The manual
sets no order between a slot's load event and its arrival (R36, R129; log entry 23). -/
inductive LoadTime where
  | now
  | later
  deriving DecidableEq, Repr

/-- The two parts of SLOT_BOUNDARY: the boundary itself, where the slot's entry is kept, and the load event of the slot
in progress where the boundary or the marker that began it left the load event for later (R36; log entry 23). -/
inductive SlotPart where
  | boundary (load : LoadTime)
  | load
  deriving DecidableEq, Repr

/-- The commands and events of spec/opcode_table.json. A command frame carries the port that sent it, its tag
and its parameters at the widths its description gives (R165). A FRAME_MARKER or SLOT_BOUNDARY named without the time of
its slot's load event takes it with the boundary (log entry 23). -/
inductive Instr where
  -- Shop Channels
  | openChannel (p : Port) (tag : Byte) (channel : Byte) (shop : BitVec 32) (slot : Byte) (serving : Byte)
  | closeChannel (p : Port) (tag : Byte) (channel : Byte)
  | setChannel (p : Port) (tag : Byte) (channel : Byte) (preset : BitVec 32) (ageLimit : BitVec 32)
  | send (p : Port) (tag : Byte) (channel : Byte) (data : List Byte)
  | readChannel (p : Port) (tag : Byte) (channel : Byte)
  -- Trunk Timebase and Slot Map
  | assignSlot (p : Port) (tag : Byte) (slot : Byte) (kind : Byte) (channel : Byte)
  | setFrame (p : Port) (tag : Byte) (frame : BitVec 16) (beatLen : BitVec 16) (slip : BitVec 16) (loss : BitVec 16)
  | readTrunk (p : Port) (tag : Byte)
  | readSlot (p : Port) (tag : Byte) (slot : Byte)
  -- Receive Acceptance and Delivery
  | take (p : Port) (tag : Byte)
  | resume (p : Port) (tag : Byte) (channel : Byte)
  | setSync (p : Port) (tag : Byte) (jump : BitVec 16) (threshold : Byte)
  -- Master Keys
  | loadMaster (p : Port) (tag : Byte) (slot : Byte) (key : Block)
  | eraseMaster (p : Port) (tag : Byte) (slot : Byte)
  -- Key Renewal
  | renew (p : Port) (tag : Byte) (channel : Byte)
  | setRenewal (p : Port) (tag : Byte) (tOffer : BitVec 16) (retryLimit : Byte) (cutover : Byte)
  -- Line Quality and Liveness
  | readQuality (p : Port) (tag : Byte) (channel : Byte)
  | setQuality (p : Port) (tag : Byte) (period low high : BitVec 16) (storm : Byte) (silence : BitVec 16)
  -- The Fault Log
  | readFault (p : Port) (tag : Byte)
  -- Ports and Commands
  | status (p : Port) (tag : Byte)
  | clearStartup (p : Port) (tag : Byte)
  | present (p : Port) (tag : Byte)
  | setAttention (p : Port) (tag : Byte) (mask : Byte)
  | setPresence (p : Port) (tag : Byte) (period : BitVec 16)
  | adopt (p : Port) (tag : Byte) (channel : Byte)
  | reset (p : Port) (tag : Byte)
  -- Resets and power
  | warmReset
  | resetLine
  | resetLineRelease
  | powerOn
  -- Events of the links, the trunk and the clock
  | frameArrival (p : Port) (bytes : List Byte)
  | beat (order : List TickWork)
  | trunkLoss
  | frameMarker (order : List TickWork) (load : LoadTime := .now)
  | slotBoundary (part : SlotPart := .boundary .now)
  | hardLimit (c : Fin 48)
  | presetTrigger (c : Fin 48)
  | dataSlotArrival (cell : Option Cell)
  | lossOfSync (c : Fin 48)
  | controlSlotArrival (cell : Option Cell)
  | tagStorm (c : Fin 48)
  | keyingEntry (c : Fin 48)
  | closingEnd (c : Fin 48)
  | ageTrigger (c : Fin 48)
  | holdOffEnd (c : Fin 48)
  | offerTimerExpiry (c : Fin 48)
  | resyncTimerExpiry (c : Fin 48)
  | cutoverTimerExpiry (c : Fin 48)
  | silenceLimit (c : Fin 48)
  | periodEnd (order : List TickWork)
  | presenceExpiry (p : Port)
  | phaseUnit (order : List TickWork)
  deriving DecidableEq, Repr

end Sys2Proof
end

