-- ==== Sys2Proof/Decode.lean ====
section
/-! DEFINITION. Reading a command. No row of spec/opcode_table.json has bits, so no table word spells one. The command
frames of chapter 10 have a byte layout of their own (R165 and the command index 10.10): this file reads a frame into
the command it carries, and writes the frame of a command. -/

namespace Sys2Proof

/-- `width` bytes of a number, most significant byte first (R166). -/
def bigEndian : (width : Nat) → (value : Nat) → List Byte
  | 0, _ => []
  | width + 1, value => BitVec.ofNat 8 (value / 256 ^ width) :: bigEndian width value

/-- The number that bytes spell, most significant byte first (R165, R166). -/
def ofBigEndian (bytes : List Byte) : Nat :=
  bytes.foldl (fun n b => n * 256 + b.toNat) 0

/-- The frame of a command: code, tag, parameter length and parameters (R165). -/
def commandFrame (code tag : Byte) (params : List Byte) : List Byte :=
  code :: tag :: BitVec.ofNat 8 params.length :: params

/-- The shortest and the longest parameter length of a command code, by the command index (10.10). -/
def paramLengths (code : Nat) : Option (Nat × Nat) :=
  match code with
  | 0x01 => some (7, 7)
  | 0x02 => some (1, 1)
  | 0x03 => some (9, 9)
  | 0x04 => some (1, 64)
  | 0x05 => some (1, 1)
  | 0x10 => some (3, 3)
  | 0x11 => some (8, 8)
  | 0x12 => some (0, 0)
  | 0x13 => some (1, 1)
  | 0x20 => some (0, 0)
  | 0x21 => some (1, 1)
  | 0x22 => some (3, 3)
  | 0x30 => some (17, 17)
  | 0x31 => some (1, 1)
  | 0x40 => some (1, 1)
  | 0x41 => some (4, 4)
  | 0x50 => some (1, 1)
  | 0x51 => some (9, 9)
  | 0x60 => some (0, 0)
  | 0x70 => some (0, 0)
  | 0x71 => some (0, 0)
  | 0x72 => some (0, 0)
  | 0x73 => some (1, 1)
  | 0x74 => some (2, 2)
  | 0x75 => some (1, 1)
  | 0x7F => some (0, 0)
  | _ => none

/-- R165's four conditions on an arriving frame. -/
def frameWellFormed (bytes : List Byte) : Bool :=
  match bytes with
  | code :: _ :: len :: params =>
    decide (len.toNat ≤ 64) && decide (params.length = len.toNat) &&
      (match paramLengths code.toNat with
       | some (lo, hi) => decide (lo ≤ params.length) && decide (params.length ≤ hi)
       | none => false)
  | _ => false

/-- A 16-bit parameter. -/
def word16 (hi lo : Byte) : BitVec 16 := BitVec.ofNat 16 (ofBigEndian [hi, lo])

/-- A 32-bit parameter. -/
def word32 (b3 b2 b1 b0 : Byte) : BitVec 32 := BitVec.ofNat 32 (ofBigEndian [b3, b2, b1, b0])

/-- The command that a code and its parameters spell (R165, 10.10). -/
def commandOfParams (p : Port) (tag : Byte) (code : Nat) (params : List Byte) : Option Instr :=
  match code, params with
  | 0x01, [c, s3, s2, s1, s0, m, sp] => some (.openChannel p tag c (word32 s3 s2 s1 s0) m sp)
  | 0x02, [c] => some (.closeChannel p tag c)
  | 0x03, [c, r3, r2, r1, r0, a3, a2, a1, a0] =>
    some (.setChannel p tag c (word32 r3 r2 r1 r0) (word32 a3 a2 a1 a0))
  | 0x04, c :: data => if data.length ≤ 63 then some (.send p tag c data) else none
  | 0x05, [c] => some (.readChannel p tag c)
  | 0x10, [n, k, c] => some (.assignSlot p tag n k c)
  | 0x11, [f1, f0, b1, b0, s1, s0, l1, l0] =>
    some (.setFrame p tag (word16 f1 f0) (word16 b1 b0) (word16 s1 s0) (word16 l1 l0))
  | 0x12, [] => some (.readTrunk p tag)
  | 0x13, [n] => some (.readSlot p tag n)
  | 0x20, [] => some (.take p tag)
  | 0x21, [c] => some (.resume p tag c)
  | 0x22, [j1, j0, t] => some (.setSync p tag (word16 j1 j0) t)
  | 0x30, m :: key => if key.length = 16 then some (.loadMaster p tag m (BitVec.ofNat 128 (ofBigEndian key))) else none
  | 0x31, [m] => some (.eraseMaster p tag m)
  | 0x40, [c] => some (.renew p tag c)
  | 0x41, [t1, t0, r, w] => some (.setRenewal p tag (word16 t1 t0) r w)
  | 0x50, [c] => some (.readQuality p tag c)
  | 0x51, [p1, p0, l1, l0, h1, h0, st, s1, s0] =>
    some (.setQuality p tag (word16 p1 p0) (word16 l1 l0) (word16 h1 h0) st (word16 s1 s0))
  | 0x60, [] => some (.readFault p tag)
  | 0x70, [] => some (.status p tag)
  | 0x71, [] => some (.clearStartup p tag)
  | 0x72, [] => some (.present p tag)
  | 0x73, [m] => some (.setAttention p tag m)
  | 0x74, [q1, q0] => some (.setPresence p tag (word16 q1 q0))
  | 0x75, [c] => some (.adopt p tag c)
  | 0x7F, [] => some (.reset p tag)
  | _, _ => none

/-- The command that a frame received on port `p` carries; none where the frame is malformed (R165). -/
def commandOfFrame (p : Port) (bytes : List Byte) : Option Instr :=
  match bytes with
  | code :: tag :: len :: params =>
    if params.length = len.toNat then commandOfParams p tag code.toNat params else none
  | _ => none

/-- The frame a master sends for a command, and the port it sends it on (R165, 10.10); none for the rows that are
events. -/
def frameOf : Instr → Option (Port × List Byte)
  | .openChannel p tag c shop m sp =>
    some (p, commandFrame 0x01 tag (c :: bigEndian 4 shop.toNat ++ [m, sp]))
  | .closeChannel p tag c => some (p, commandFrame 0x02 tag [c])
  | .setChannel p tag c r a =>
    some (p, commandFrame 0x03 tag (c :: bigEndian 4 r.toNat ++ bigEndian 4 a.toNat))
  | .send p tag c data => some (p, commandFrame 0x04 tag (c :: data))
  | .readChannel p tag c => some (p, commandFrame 0x05 tag [c])
  | .assignSlot p tag n k c => some (p, commandFrame 0x10 tag [n, k, c])
  | .setFrame p tag f b sl lo =>
    some (p, commandFrame 0x11 tag
      (bigEndian 2 f.toNat ++ bigEndian 2 b.toNat ++ bigEndian 2 sl.toNat ++ bigEndian 2 lo.toNat))
  | .readTrunk p tag => some (p, commandFrame 0x12 tag [])
  | .readSlot p tag n => some (p, commandFrame 0x13 tag [n])
  | .take p tag => some (p, commandFrame 0x20 tag [])
  | .resume p tag c => some (p, commandFrame 0x21 tag [c])
  | .setSync p tag j t => some (p, commandFrame 0x22 tag (bigEndian 2 j.toNat ++ [t]))
  | .loadMaster p tag m key => some (p, commandFrame 0x30 tag (m :: bigEndian 16 key.toNat))
  | .eraseMaster p tag m => some (p, commandFrame 0x31 tag [m])
  | .renew p tag c => some (p, commandFrame 0x40 tag [c])
  | .setRenewal p tag t r w => some (p, commandFrame 0x41 tag (bigEndian 2 t.toNat ++ [r, w]))
  | .readQuality p tag c => some (p, commandFrame 0x50 tag [c])
  | .setQuality p tag pe lo hi st si =>
    some (p, commandFrame 0x51 tag
      (bigEndian 2 pe.toNat ++ bigEndian 2 lo.toNat ++ bigEndian 2 hi.toNat ++ st :: bigEndian 2 si.toNat))
  | .readFault p tag => some (p, commandFrame 0x60 tag [])
  | .status p tag => some (p, commandFrame 0x70 tag [])
  | .clearStartup p tag => some (p, commandFrame 0x71 tag [])
  | .present p tag => some (p, commandFrame 0x72 tag [])
  | .setAttention p tag m => some (p, commandFrame 0x73 tag [m])
  | .setPresence p tag q => some (p, commandFrame 0x74 tag (bigEndian 2 q.toNat))
  | .adopt p tag c => some (p, commandFrame 0x75 tag [c])
  | .reset p tag => some (p, commandFrame 0x7F tag [])
  | .warmReset => none
  | .resetLine => none
  | .resetLineRelease => none
  | .powerOn => none
  | .frameArrival _ _ => none
  | .beat _ => none
  | .trunkLoss => none
  | .frameMarker _ _ => none
  | .slotBoundary _ => none
  | .hardLimit _ => none
  | .presetTrigger _ => none
  | .dataSlotArrival _ => none
  | .lossOfSync _ => none
  | .controlSlotArrival _ => none
  | .tagStorm _ => none
  | .keyingEntry _ => none
  | .closingEnd _ => none
  | .ageTrigger _ => none
  | .holdOffEnd _ => none
  | .offerTimerExpiry _ => none
  | .resyncTimerExpiry _ => none
  | .cutoverTimerExpiry _ => none
  | .silenceLimit _ => none
  | .periodEnd _ => none
  | .presenceExpiry _ => none
  | .phaseUnit _ => none

/-- The command that a word of the opcode table spells. Every row's "fields" is empty and no row has "fixed" bits, so
no word spells one. -/
def decodeTableWord (_nbits _w : Nat) : Option Instr := none

end Sys2Proof
end

