-- ==== Sys2Proof/Config.lean ====
section
/-! DEFINITION. What the manual leaves open as free values, and the fixed numbers it states. -/

namespace Sys2Proof

/-- The block transform B of R53, one permutation of blocks for each key. Its construction is not given
(00_scope.md, "Matters outside this manual"): a free value, of which only what R53 states is known. B is fixed and
stateless by being a constant, and one-to-one under each key by its type. Log entry 1. -/
opaque Config.blockPerm : Block → Equiv.Perm Block

/-- The values of the nonce source (R100), numbered in the order they are drawn: a free value. A draw is this number
plus one, so it takes every 8-byte value but the all-zero one. Log entry 2. -/
opaque Config.nonceSeed : Nat → Fin 18446744073709551615

/-- The hard limit on a transmit sequence (R5, R49). -/
def Config.hardLimit : Nat := 16776960

/-- The default rekey preset (R7). -/
def Config.defaultPreset : Nat := 8388608

/-- Cells in an outbound queue (R18). -/
def Config.outboundDepth : Nat := 8

/-- Cells in an inbound queue (R82). -/
def Config.inboundDepth : Nat := 32

/-- Frames in a command queue (R168). -/
def Config.commandDepth : Nat := 4

/-- Records in the fault log (R154). -/
def Config.logDepth : Nat := 64

end Sys2Proof
end

