-- ==== Sys2Proof/Machine/State.lean ====
section
/-! DEFINITION. The state of the part as plain data, block by block (00_scope.md, "Blocks"), and its value after
power-on. -/

namespace Sys2Proof.Machine

/-- A service port, A or B: the only ports that may serve a channel (R1, R24). -/
inductive Service where
  | a
  | b
  deriving DecidableEq, Repr

/-- Channel states, in the manual's order (R1, R2). -/
inductive ChannelState where
  | closed
  | opening
  | keying
  | active
  | closing
  deriving DecidableEq, Repr

/-- Renewal states (R97). -/
inductive RenewalState where
  | idle
  | offered
  | agreed
  | cutover
  deriving DecidableEq, Repr

/-- Causes of the renewal-wanted flag, in the order of their codes 1 to 7 (R101). -/
inductive Cause where
  | initial
  | preset
  | age
  | shop
  | command
  | resync
  | storm
  deriving DecidableEq, Repr

/-- Sync states (R71). -/
inductive SyncState where
  | sync
  | hunt
  | suspended
  | quarantine
  deriving DecidableEq, Repr

/-- Trunk states (R29). -/
inductive TrunkState where
  | lost
  | acquiring
  | locked
  deriving DecidableEq, Repr

/-- What a slot map entry says of its slot (R38). -/
inductive SlotKind where
  | unused
  | data (c : Fin 48)
  | control
  deriving DecidableEq, Repr

/-- The nine cell kinds (R50). -/
inductive CellKind where
  | idle
  | data
  | pad
  | offer
  | accept
  | switch
  | request
  | resync
  | mark
  deriving DecidableEq, Repr

/-- Fault kinds, in the order of their codes 1 to 17 (R153). -/
inductive FaultKind where
  | trunkLost
  | trunkLocked
  | trunkSlip
  | trunkFraming
  | portAbsent
  | portReturned
  | hardLimit
  | renewFail
  | resyncFail
  | syncLost
  | tagStorm
  | qualityLow
  | qualityOk
  | silent
  | inboundOverrun
  | masterErased
  | lost
  deriving DecidableEq, Repr

/-- Completion codes, in the order of their values 0 to 15 (R166). -/
inductive Completion where
  | done
  | adjusted
  | startup
  | privilege
  | format
  | range
  | relation
  | state
  | busy
  | queueFull
  | empty
  | notServing
  | ownerPresent
  | noMaster
  | inUse
  | portFull
  deriving DecidableEq, Repr

/-- The two keys of an entry (R54). -/
structure KeyPair where
  kEnc : Block
  kTag : Block
  deriving DecidableEq, Repr

/-- A key entry: an epoch with its two keys (R54, R98). -/
structure KeyEntry where
  epoch : BitVec 8
  keys : KeyPair
  deriving DecidableEq, Repr

/-- A receive window (R61): the highest accepted sequence H and the seen-set, kept as a falling list. -/
structure Window where
  high : Option Nat
  seen : List Nat
  deriving DecidableEq, Repr

/-- The current entry (R1, R5, R6). -/
structure CurrentEntry where
  key : KeyEntry
  nextTx : Nat
  age : Nat
  window : Window
  deriving DecidableEq, Repr

/-- The previous entry, kept for receiving while its cutover timer runs (R1, R115). -/
structure PreviousEntry where
  key : KeyEntry
  window : Window
  cutover : Nat
  deriving DecidableEq, Repr

/-- The pending entry: epoch and part nonce, with keys once an ACCEPT has verified (R97). -/
structure PendingEntry where
  epoch : BitVec 8
  nonce : BitVec 64
  keys : Option KeyPair
  deriving DecidableEq, Repr

/-- A cell of an outbound queue: its length, and its 48 payload bytes (R17). -/
structure OutboundCell where
  length : Nat
  payload : BitVec 384
  deriving DecidableEq, Repr

/-- An entry of a channel's pending list with the values fixed when it was queued (R124). -/
inductive ControlCell where
  | offer (epoch : BitVec 8) (nonce : BitVec 64)
  | switch (epoch : BitVec 8)
  | resync (challenge : BitVec 64)
  | mark (challenge : BitVec 64)
  deriving DecidableEq, Repr

/-- The three families of pending control cells (R124). -/
inductive Family where
  | renewal
  | challenge
  | answer
  deriving DecidableEq, Repr

/-- The nine period counts of a channel (R138, R139). -/
structure Counts where
  g : Nat
  t : Nat
  j : Nat
  e : Nat
  x : Nat
  r : Nat
  d : Nat
  withheld : Nat
  idle : Nat
  deriving DecidableEq, Repr

/-- The quality state of a channel (R138). -/
structure Quality where
  counts : Counts
  last : Counts
  lastScore : Option Nat
  smoothed : Nat
  low : Bool
  storm : Bool
  silenceRunning : Bool
  silence : Nat
  deriving DecidableEq, Repr

/-- A channel record (R1, with the renewal fields of R97, the resync exchange of R74, the pending list of R124 and the
quality state of R138). Its channel id is its place in the table. -/
structure Channel where
  state : ChannelState
  serving : Option Service
  master : Option (Fin 4)
  shop : Option (BitVec 32)
  current : Option CurrentEntry
  previous : Option PreviousEntry
  pendingEntry : Option PendingEntry
  base : Option KeyEntry
  renewal : RenewalState
  wanted : Option Cause
  holdOff : Nat
  offerTimer : Option Nat
  renewRetries : Nat
  sync : SyncState
  syncLoss : Nat
  challenge : Option (BitVec 64)
  resyncRetries : Nat
  resyncTimer : Option Nat
  held : Bool
  outbound : List OutboundCell
  pendingCells : List ControlCell
  preset : Nat
  ageLimit : Nat
  quality : Quality
  deriving DecidableEq, Repr

/-- A master key slot (R87). -/
inductive MasterSlot where
  | empty
  | loaded (key : Block) (check : BitVec 24)
  deriving DecidableEq, Repr

/-- The timebase (R29). -/
structure Timebase where
  trunk : TrunkState
  phase : Nat
  beats : Nat
  acquire : Nat
  deviation : Nat
  tick : BitVec 32
  deriving DecidableEq, Repr

/-- The frame parameters (R40). -/
structure FrameParams where
  slots : Nat
  beatLen : Nat
  slip : Nat
  loss : Nat
  deriving DecidableEq, Repr

/-- A slot map entry: the entry in force and the optional pending value (R38). -/
structure MapEntry where
  inForce : SlotKind
  pending : Option SlotKind
  deriving DecidableEq, Repr

/-- The slot sequencer: the slot number, the entry kept for the slot in progress when it is served and whether that slot's
load event is still to be taken (R36; log entry 23), the slot map and the frame parameters with their pending values
(R38, R40). -/
structure Sequencer where
  slot : Nat
  kept : Option SlotKind
  loadDue : Bool
  map : Vector MapEntry 64
  frame : FrameParams
  pendingFrame : Option FrameParams
  deriving DecidableEq, Repr

/-- The part-wide receive parameters (R86). -/
structure ReceiveParams where
  jump : Nat
  threshold : Nat
  deriving DecidableEq, Repr

/-- The part-wide renewal parameters (R99). -/
structure RenewalParams where
  tOffer : Nat
  retryLimit : Nat
  cutover : Nat
  deriving DecidableEq, Repr

/-- The part-wide quality parameters (R150). -/
structure QualityParams where
  period : Nat
  low : Nat
  high : Nat
  stormLimit : Nat
  silenceLimit : Nat
  deriving DecidableEq, Repr

/-- A delivered cell of an inbound queue (R82); its length field is the length of its data. -/
structure Delivered where
  channel : Fin 48
  epoch : BitVec 8
  sequence : Nat
  data : List Byte
  deriving DecidableEq, Repr

/-- A fault record (R153). -/
structure FaultRecord where
  number : BitVec 32
  kind : FaultKind
  channel : Option (Fin 48)
  port : Option Port
  stamp : BitVec 32
  detail : BitVec 16
  repeats : Nat
  deriving DecidableEq, Repr

/-- A fault as the rule that raises it gives it (R153, R156). -/
structure FaultReport where
  kind : FaultKind
  channel : Option (Fin 48)
  port : Option Port
  detail : BitVec 16
  deriving DecidableEq, Repr

/-- A fault that has been raised and that the log has not yet taken, with the number of the event that raised it and the
tick counter at that event (R156). -/
structure RaisedFault where
  event : Nat
  stamp : BitVec 32
  report : FaultReport
  deriving DecidableEq, Repr

/-- The fault log: its records oldest first, the next record number and the lost counter (R154), and the faults that have
been raised and not yet taken, in the order raised (R156). `turns` and `event` are the model's own: for each coming turn of
the log, the places of the waiting faults that it takes then, and the number of the next event that raises a fault (log
entry 25). -/
structure FaultLog where
  records : List FaultRecord
  next : BitVec 32
  lost : Nat
  waiting : List RaisedFault
  turns : List (List Nat)
  event : Nat
  deriving DecidableEq, Repr

/-- A port link (R155, R167, R168, R173, R178). -/
structure PortLink where
  queue : List (List Byte)
  framing : Nat
  present : Bool
  timer : Nat
  cursor : BitVec 32
  mask : BitVec 8
  deriving DecidableEq, Repr

/-- A response frame made on a port link (R166). -/
structure Response where
  port : Port
  bytes : List Byte
  deriving DecidableEq, Repr

/-- The whole state. `responses`, `nonceIndex`, `pending` and the log's `turns` and `event` are the model's own (log
entries 2, 12 and 25). -/
structure State where
  channels : Vector Channel 48
  masters : Vector MasterSlot 4
  timebase : Timebase
  sequencer : Sequencer
  lineOut : Option Cell
  receive : ReceiveParams
  renewalParams : RenewalParams
  qualityParams : QualityParams
  presencePeriod : Nat
  inboundA : List Delivered
  inboundB : List Delivered
  lastChannel : Fin 48
  stray : Nat
  periodTimer : Nat
  log : FaultLog
  portA : PortLink
  portB : PortLink
  portK : PortLink
  lastPort : Port
  startup : Bool
  halted : Bool
  resetLine : Bool
  responses : List Response
  nonceIndex : Nat
  pending : List Instr
  deriving DecidableEq, Repr

/-- Why a step stops with a fault. -/
inductive Fault where
  /-- Raised by SLOT_BOUNDARY and FRAME_MARKER when the control arbiter chooses a cell whose tagging entry (or the shop
  code it carries) the record does not hold. R59 says that this cannot arise; the model stops rather than send a cell
  the manual does not give. A safe stop (log entry 18). -/
  | noTaggingEntry
  deriving DecidableEq, Repr

/-- Why a step refuses a command. -/
inductive Refusal where
  /-- Raised only by an arm of exec whose command has no meaning yet; every command has one. A safe stop. -/
  | notModelled (mnemonic : String)
  deriving DecidableEq, Repr

/-- All nine counts at 0 (R138). -/
def Counts.zero : Counts := ⟨0, 0, 0, 0, 0, 0, 0, 0, 0⟩

/-- The quality state at OPEN and in the closed values (R138). -/
def Quality.fresh : Quality :=
  { counts := Counts.zero, last := Counts.zero, lastScore := none, smoothed := 1000, low := false, storm := false,
    silenceRunning := false, silence := 0 }

/-- The closed values of a channel record (R4, R74, R97, R124, R138). -/
def Channel.closedValues : Channel :=
  { state := .closed, serving := none, master := none, shop := none, current := none, previous := none,
    pendingEntry := none, base := none, renewal := .idle, wanted := none, holdOff := 0, offerTimer := none,
    renewRetries := 0, sync := .sync, syncLoss := 0, challenge := none, resyncRetries := 0, resyncTimer := none,
    held := false, outbound := [], pendingCells := [], preset := Config.defaultPreset, ageLimit := 0,
    quality := Quality.fresh }

/-- A port link after any reset (R155, R168, R173, R178). -/
def PortLink.fresh : PortLink :=
  { queue := [], framing := 0, present := false, timer := 0, cursor := 1, mask := 7 }

/-- The frame parameters after any reset (R40). -/
def FrameParams.default : FrameParams := { slots := 32, beatLen := 8000, slip := 40, loss := 3 }

/-- The state after power-on (R180 and the rule of each block). The slot number, the line, the level of the reset line
and the model's own fields have no value in the manual (log entries 2, 11, 12, 17). -/
def State.reset : State :=
  { channels := Vector.replicate 48 Channel.closedValues
    masters := Vector.replicate 4 MasterSlot.empty
    timebase := { trunk := .lost, phase := 0, beats := 0, acquire := 0, deviation := 0, tick := 0 }
    sequencer :=
      { slot := 0, kept := none, loadDue := false,
        map := Vector.replicate 64 { inForce := .unused, pending := none }, frame := FrameParams.default, pendingFrame := none }
    lineOut := none
    receive := { jump := 4096, threshold := 4 }
    renewalParams := { tOffer := 64, retryLimit := 3, cutover := 16 }
    qualityParams := { period := 1024, low := 900, high := 950, stormLimit := 32, silenceLimit := 2048 }
    presencePeriod := 512
    inboundA := []
    inboundB := []
    lastChannel := 0
    stray := 0
    periodTimer := 0
    log := { records := [], next := 1, lost := 0, waiting := [], turns := [], event := 0 }
    portA := PortLink.fresh
    portB := PortLink.fresh
    portK := PortLink.fresh
    lastPort := .a
    startup := true
    halted := false
    resetLine := false
    responses := []
    nonceIndex := 0
    pending := [] }

end Sys2Proof.Machine
end

