-- ==== Sys2Proof/Machine/Ops.lean ====
section
/-! DEFINITION. The named operations over the state: records, port links, inbound queues, counts, the nonce source,
responses, and raising a fault into the log (chapter 9). -/

namespace Sys2Proof.Machine

/-- The port link of a service port. -/
def Service.port : Service → Port
  | .a => .a
  | .b => .b

/-- The other service port. -/
def Service.other : Service → Service
  | .a => .b
  | .b => .a

/-- The service port that a port link is, if it is one. -/
def serviceOf : Port → Option Service
  | .a => some .a
  | .b => some .b
  | .k => none

/-- A 16-bit count rises by one and stays at 65,535 (00_scope.md, "Counters"). -/
def bump (n : Nat) : Nat := min 65535 (n + 1)

/-! ## Records, links and queues -/

/-- The record of channel c. -/
def State.chan (s : State) (c : Fin 48) : Channel := s.channels[c]

/-- Replace the record of channel c. -/
def State.setChan (s : State) (c : Fin 48) (r : Channel) : State :=
  { s with channels := s.channels.set c r }

/-- Change the record of channel c. -/
def State.modChan (s : State) (c : Fin 48) (f : Channel → Channel) : State := s.setChan c (f (s.chan c))

/-- One function over every entry of a table. -/
def mapTable {α : Type} {n : Nat} (f : α → α) (v : Vector α n) : Vector α n :=
  ⟨(v.toArray.toList.map f).toArray, by simp⟩

/-- Change every record by one function. -/
def State.mapChans (s : State) (f : Channel → Channel) : State := { s with channels := mapTable f s.channels }

/-- The port link of a port. -/
def State.link (s : State) : Port → PortLink
  | .a => s.portA
  | .b => s.portB
  | .k => s.portK

/-- Replace a port link. -/
def State.setLink (s : State) (p : Port) (l : PortLink) : State :=
  match p with
  | .a => { s with portA := l }
  | .b => { s with portB := l }
  | .k => { s with portK := l }

/-- The inbound queue of a service port (R82). -/
def State.inbound (s : State) : Service → List Delivered
  | .a => s.inboundA
  | .b => s.inboundB

/-- Replace an inbound queue. -/
def State.setInbound (s : State) (q : Service) (cells : List Delivered) : State :=
  match q with
  | .a => { s with inboundA := cells }
  | .b => { s with inboundB := cells }

/-- The stray count rises by one (R136). -/
def State.countStray (s : State) : State := { s with stray := bump s.stray }

/-! ## The nonce source -/

/-- The value at a place of the nonce source: any 8-byte value but the all-zero one (R100). -/
def nonceAt (n : Nat) : BitVec 64 := BitVec.ofNat 64 ((Config.nonceSeed n).val + 1)

/-- The value the next draw yields. -/
def State.nextNonce (s : State) : BitVec 64 := nonceAt s.nonceIndex

/-- The state after a draw. -/
def State.afterDraw (s : State) : State := { s with nonceIndex := s.nonceIndex + 1 }

/-! ## Responses (R166) -/

/-- The value of a completion code. -/
def Completion.code : Completion → Byte
  | .done => 0
  | .adjusted => 1
  | .startup => 2
  | .privilege => 3
  | .format => 4
  | .range => 5
  | .relation => 6
  | .state => 7
  | .busy => 8
  | .queueFull => 9
  | .empty => 10
  | .notServing => 11
  | .ownerPresent => 12
  | .noMaster => 13
  | .inUse => 14
  | .portFull => 15

/-- A response frame (R166). -/
def responseFrame (tag code : Byte) (completion : Completion) (results : List Byte) : List Byte :=
  tag :: code :: completion.code :: BitVec.ofNat 8 results.length :: results

/-- A response is made on a port link (R164). -/
def State.respond (s : State) (p : Port) (tag code : Byte) (completion : Completion) (results : List Byte) : State :=
  { s with responses := s.responses ++ [⟨p, responseFrame tag code completion results⟩] }

/-! ## The fault log (chapter 9) -/

/-- Record r is at or beyond cursor c by the modular distance (R155). -/
def unread (r c : BitVec 32) : Bool := decide ((r - c).toNat < 2147483648)

/-- The fault cursors of the PRESENT ports. -/
def presentCursors (link : Port → PortLink) : List (BitVec 32) :=
  ([.a, .b, .k].filter (fun p => (link p).present)).map (fun p => (link p).cursor)

/-- The records at or beyond a cursor, oldest first (R155, R160). -/
def FaultLog.unreadFrom (log : FaultLog) (cursor : BitVec 32) : List FaultRecord :=
  log.records.filter (fun r => unread r.number cursor)

/-- R157's conditions on folding a fault into the newest record. DESIGN CHOICE (log entry 26, unsafe): R163 and section
10.5 say that the records a PRESENT port has not read cannot fold, R157 and the worked example that a record folds while
no PRESENT port has read it; the model follows R157. -/
def FaultLog.folds (log : FaultLog) (cursors : List (BitVec 32)) (f : FaultReport) : Bool :=
  decide (log.lost = 0) &&
    match log.records.getLast? with
    | none => false
    | some r =>
      decide (r.kind = f.kind) && decide (r.kind ≠ .lost) && decide (r.channel = f.channel) && decide (r.port = f.port) &&
        cursors.all (unread r.number)

/-- What folding does to the newest record (R157). -/
def FaultRecord.fold (r : FaultRecord) (stamp : BitVec 32) (f : FaultReport) : FaultRecord :=
  { r with repeats := bump r.repeats, stamp := stamp, detail := f.detail }

/-- Room for one record (R158): the log itself, the log less its oldest record, or none. -/
def FaultLog.makeRoom (log : FaultLog) (cursors : List (BitVec 32)) : Option FaultLog :=
  if log.records.length < Config.logDepth then some log
  else
    match log.records with
    | [] => some log
    | oldest :: rest => if cursors.any (unread oldest.number) then none else some { log with records := rest }

/-- A new record at the tail with the next record number (R154, R159). -/
def FaultLog.append (log : FaultLog) (stamp : BitVec 32) (f : FaultReport) : FaultLog :=
  { log with
    records := log.records ++
      [{ number := log.next, kind := f.kind, channel := f.channel, port := f.port, stamp := stamp, detail := f.detail,
         repeats := 1 }]
    next := log.next + 1 }

/-- Appending with the lost counter at 0 (R159). -/
def FaultLog.appendOrLose (log : FaultLog) (cursors : List (BitVec 32)) (stamp : BitVec 32) (f : FaultReport) : FaultLog :=
  match log.makeRoom cursors with
  | some l => l.append stamp f
  | none => { log with lost := 1 }

/-- The LOST record's fields (R159). -/
def lostReport (n : Nat) : FaultReport := { kind := .lost, channel := none, port := none, detail := BitVec.ofNat 16 n }

/-- The log takes one fault (R156): it folds it, or appends it as R159 gives. -/
def FaultLog.accept (log : FaultLog) (cursors : List (BitVec 32)) (stamp : BitVec 32) (f : FaultReport) : FaultLog :=
  if log.folds cursors f then
    { log with records := log.records.dropLast ++ (log.records.getLast?.map (·.fold stamp f)).toList }
  else if log.lost = 0 then log.appendOrLose cursors stamp f
  else
    match log.makeRoom cursors with
    | none => { log with lost := bump log.lost }
    | some l => { l.append stamp (lostReport log.lost) with lost := 0 }.appendOrLose cursors stamp f

/-- The detail of PORT_RETURNED for a port's cursor: the records at or beyond it just before the record is appended, a LOST
record that goes before it among them (R159, R163; log entry 14). A record that is retired to make room is not among them:
the port, judged PRESENT, has read it. -/
def FaultLog.returnDetail (log : FaultLog) (cursor : BitVec 32) : Nat :=
  (log.unreadFrom cursor).length + (if log.lost ≠ 0 ∧ unread log.next cursor then 1 else 0)

/-- The ports as a fault is judged with them: the port of a PORT_ABSENT as ABSENT, that of a PORT_RETURNED as PRESENT, and
every other as it stands when the log takes the fault (R156, R163; log entry 25). -/
def asJudged (link : Port → PortLink) (f : FaultReport) (p : Port) : PortLink :=
  if f.port = some p then
    match f.kind with
    | .portAbsent => { link p with present := false }
    | .portReturned => { link p with present := true }
    | _ => link p
  else link p

/-- A report as the log takes it: PORT_RETURNED counts the records unread at that moment (R163). -/
def FaultLog.asTaken (log : FaultLog) (link : Port → PortLink) (f : FaultReport) : FaultReport :=
  match f.kind, f.port with
  | .portReturned, some p => { f with detail := BitVec.ofNat 16 (log.returnDetail (link p).cursor) }
  | _, _ => f

/-- The log takes the waiting fault at place i, unless an earlier fault of the same event still waits: it takes the faults
of one event in the order raised (R156). -/
def FaultLog.takeFault (log : FaultLog) (link : Port → PortLink) (i : Nat) : FaultLog :=
  match log.waiting[i]? with
  | some f =>
    if (log.waiting.take i).any (fun e => decide (e.event = f.event)) then log
    else
      { log with waiting := log.waiting.eraseIdx i }.accept (presentCursors (asJudged link f.report)) f.stamp
        (log.asTaken link f.report)
  | none => log

/-- A turn of the log: it takes the waiting faults at the places that `turns` names for this turn, one after the other, and
every waiting fault, oldest first, when `turns` is spent (R156; log entry 25). -/
def FaultLog.turn (log : FaultLog) (link : Port → PortLink) : FaultLog :=
  match log.turns with
  | places :: rest => places.foldl (fun l i => l.takeFault link i) { log with turns := rest }
  | [] => log.waiting.foldl (fun l _ => l.takeFault link 0) log

/-- A fault of the event in progress joins the faults that wait; the next fault is another event's (R156). -/
def FaultLog.wait (log : FaultLog) (stamp : BitVec 32) (f : FaultReport) : FaultLog :=
  { log with
    waiting := log.waiting ++ [{ event := log.event, stamp := stamp, report := f }]
    event := log.event + 1 }

/-- A rule raises a fault (R153, R156): stamped with the tick counter it joins the faults that wait, and the log has a turn,
in which it takes faults or none. It is an event's only fault unless `State.inEvent` says otherwise. DESIGN CHOICE (log
entry 25): R156 does not say when the log takes a fault; `turns` says
it, in every order that R156 allows. -/
def State.raise (s : State) (kind : FaultKind) (channel : Option (Fin 48)) (port : Option Port) (detail : Nat) : State :=
  { s with
    log := (s.log.wait s.timebase.tick
      { kind := kind, channel := channel, port := port, detail := BitVec.ofNat 16 detail }).turn s.link }

/-- A rule raises a fault of a channel, which names the channel's serving port (R153). -/
def State.raiseFor (s : State) (kind : FaultKind) (c : Fin 48) (detail : Nat) : State :=
  s.raise kind (some c) ((s.chan c).serving.map Service.port) detail

/-- The next fault raised is one of the event with this number (R156). -/
def State.inEvent (s : State) (event : Nat) : State := { s with log := { s.log with event := event } }

/-- Two parts of one event, each of which may raise a fault: the faults of both are that event's (R146, R156). -/
def State.asOneEvent (s : State) (first second : State → State) : State :=
  let s1 := first s
  let s2 := second (s1.inEvent s.log.event)
  s2.inEvent (max s1.log.event s2.log.event)

/-- A fault waits and the log's next turn takes some: the log acts on its own (R156). -/
def State.logActs (s : State) : Bool :=
  !s.resetLine && !s.log.waiting.isEmpty && decide (s.log.turns.head? ≠ some [])

/-- The log's taking of waiting faults as an event of its own (R156). -/
def State.logTurn (s : State) : State := { s with log := s.log.turn s.link }

/-- A turn in which the log takes none of the faults that wait: another event comes first (R156; log entry 25). -/
def State.passTurn (s : State) : State :=
  if s.resetLine || s.log.waiting.isEmpty then s else { s with log := { s.log with turns := s.log.turns.tail } }

/-! ## The reset line -/

/-- While the reset line is asserted the part does nothing (R180). -/
def State.whileRunning (s : State) (f : State → State) : State := if s.resetLine then s else f s

end Sys2Proof.Machine
end

