-- ==== Sys2Proof/Machine/Flags.lean ====
section
/-! DEFINITION. The flags and conditions the part computes: attention conditions and lines (R162, R178), presence of a
serving port (R9), the low flag and the scores it is judged from (R142, R143), the storm condition (R145), the keyed
and bound conditions (R2, R88), and the AGE condition (R102). -/

namespace Sys2Proof.Machine

/-! ## Attention (R162, R178) -/

/-- The INBOUND condition; port K has no inbound queue (R178). -/
def State.inboundCondition (s : State) (p : Port) : Bool :=
  match serviceOf p with
  | some q => !(s.inbound q).isEmpty
  | none => false

/-- The FAULT condition: the log holds a record at or beyond the port's cursor (R162). -/
def State.faultCondition (s : State) (p : Port) : Bool :=
  s.log.records.any (fun r => unread r.number (s.link p).cursor)

/-- The attention line of a port: an enabled condition holds (R178). -/
def State.attention (s : State) (p : Port) : Bool :=
  (s.inboundCondition p && (s.link p).mask.getLsbD 0) || (s.faultCondition p && (s.link p).mask.getLsbD 1) ||
    (s.startup && (s.link p).mask.getLsbD 2)

/-! ## Presence -/

/-- A service port is PRESENT (R173). -/
def State.servicePresent (s : State) (q : Service) : Bool := (s.link q.port).present

/-- The channel's serving port is PRESENT (R9). -/
def State.ownerPresent (s : State) (r : Channel) : Bool :=
  match r.serving with
  | some q => s.servicePresent q
  | none => false

/-! ## Channel conditions -/

/-- KEYING or ACTIVE: the states a trigger reaches (R101). -/
def Channel.triggerable (r : Channel) : Bool := decide (r.state = .keying) || decide (r.state = .active)

/-- Bound to a master slot (R88). -/
def Channel.boundTo (r : Channel) (m : Fin 4) : Bool := decide (r.state ≠ .closed) && decide (r.master = some m)

/-- The channels bound to a slot (R88). -/
def State.boundChannels (s : State) (m : Fin 4) : List (Fin 48) :=
  (List.finRange 48).filter (fun c => (s.chan c).boundTo m)

/-- The binding count of a slot (R88). -/
def State.bindingCount (s : State) (m : Fin 4) : Nat := (s.boundChannels m).length

/-- The AGE condition: a nonzero limit that the key age has reached (R102). -/
def Channel.ageReached (r : Channel) : Bool :=
  match r.current with
  | some e => decide (r.ageLimit ≠ 0) && decide (r.ageLimit ≤ e.age)
  | none => false

/-- The PRESET condition of a failed renewal: the last cell sent was at or above the preset (R108). -/
def Channel.presetReached (r : Channel) : Bool :=
  match r.current with
  | some e => decide (r.preset < e.nextTx)
  | none => false

/-- Sync states in which failures raise the sync-loss count and cells are checked (R64, R72). -/
def SyncState.placing : SyncState → Bool
  | .sync => true
  | .suspended => true
  | .hunt => false
  | .quarantine => false

/-! ## Scores (R142, R143) -/

/-- The denominator N (R142). -/
def Counts.scored (n : Counts) : Nat := n.g + n.t + n.j + n.e + n.x

/-- The period score Q for a nonzero N (R142). -/
def Counts.score (n : Counts) : Nat := 1000 * n.g / n.scored

/-- The smoothed score after a period with score q (R142). -/
def smooth (qs q : Nat) : Nat := (3 * qs + q + 2) / 4

/-- Step 1, 2 and 4 of a period end on one quality state (R141, R142), the low flag apart. -/
def Quality.closePeriod (q : Quality) : Quality :=
  { q with
    last := q.counts
    lastScore := if q.counts.scored = 0 then q.lastScore else some q.counts.score
    smoothed := if q.counts.scored = 0 then q.smoothed else smooth q.smoothed q.counts.score
    counts := Counts.zero
    storm := false }

/-- The low flag after its judgement (R143). -/
def lowFlagAfter (low high qs : Nat) (flag : Bool) : Bool := if flag then decide (qs < high) else decide (qs < low)

/-- The storm condition at a rise of T: the mark is clear and T is at or above the limit (R145). -/
def Quality.stormDue (q : Quality) (limit : Nat) : Bool := !q.storm && decide (limit ≤ q.counts.t)

end Sys2Proof.Machine
end

