-- ==== Sys2Proof/Machine/Operands.lean ====
section
/-! DEFINITION. Operands: command parameters with their ranges and clamps (R8, R40, R86, R99, R150, R174), and the
encoding of results (R166). -/

namespace Sys2Proof.Machine

/-! ## Parameters -/

/-- A channel id parameter: 0 to 47 name a channel (R1). -/
def channelOf (b : Byte) : Option (Fin 48) := if h : b.toNat < 48 then some ⟨b.toNat, h⟩ else none

/-- A master slot parameter: 0 to 3 (R10, R90, R92). -/
def masterOf (b : Byte) : Option (Fin 4) := if h : b.toNat < 4 then some ⟨b.toNat, h⟩ else none

/-- A slot parameter: 0 to 63 (R39, R47). -/
def slotOf (b : Byte) : Option (Fin 64) := if h : b.toNat < 64 then some ⟨b.toNat, h⟩ else none

/-- The serving port parameter of OPEN: 1 for A and 2 for B (10.10). -/
def servingOf (b : Byte) : Option Service :=
  if b = 1 then some .a else if b = 2 then some .b else none

/-- The kind and channel parameters of ASSIGN_SLOT (R39, 10.10). -/
def slotKindOf (kind channel : Byte) : Option SlotKind :=
  if kind = 0 then some .unused
  else if kind = 1 then (channelOf channel).map .data
  else if kind = 2 then some .control
  else none

/-- The nearest value in range (00_scope.md, "Clamping"). -/
def clamp (lo hi n : Nat) : Nat := max lo (min hi n)

/-- R8's clamp of a rekey preset. -/
def clampPreset (n : Nat) : Nat := clamp 1024 16000000 n

/-- R8's clamp of a key age limit, with the gap between 0 and 256. -/
def clampAgeLimit (n : Nat) : Nat :=
  if n < 128 then 0 else if n < 256 then 256 else min 4000000000 n

/-- R40's clamp of the four frame parameters. -/
def clampFrame (f : FrameParams) : FrameParams :=
  let beatLen := clamp 256 65535 f.beatLen
  { slots := clamp 8 64 f.slots, beatLen := beatLen, slip := clamp 1 (beatLen / 4) f.slip, loss := clamp 2 15 f.loss }

/-- R86's clamp. -/
def clampReceive (p : ReceiveParams) : ReceiveParams :=
  { jump := clamp 64 65535 p.jump, threshold := clamp 1 15 p.threshold }

/-- R99's clamp. -/
def clampRenewal (p : RenewalParams) : RenewalParams :=
  { tOffer := clamp 4 1023 p.tOffer, retryLimit := clamp 0 7 p.retryLimit, cutover := clamp 1 255 p.cutover }

/-- R150's clamp of each value into its own range. -/
def clampQuality (p : QualityParams) : QualityParams :=
  { period := clamp 16 65535 p.period, low := clamp 0 1000 p.low, high := clamp 0 1000 p.high,
    stormLimit := clamp 1 255 p.stormLimit, silenceLimit := clamp 16 65535 p.silenceLimit }

/-- The completion code of a command that clamps: DONE when nothing was clamped, ADJUSTED otherwise. -/
def clampedAnswer {α : Type} [DecidableEq α] (given used : α) : Completion := if given = used then .done else .adjusted

/-! ## Results (R166) -/

/-- A presence byte or a flag. -/
def flagByte (b : Bool) : Byte := if b then 1 else 0

/-- A number in one byte. -/
def u8 (n : Nat) : List Byte := bigEndian 1 n

/-- A number in two bytes. -/
def u16 (n : Nat) : List Byte := bigEndian 2 n

/-- A number in three bytes. -/
def u24 (n : Nat) : List Byte := bigEndian 3 n

/-- A number in four bytes. -/
def u32 (n : Nat) : List Byte := bigEndian 4 n

/-- A port: A 1, B 2, K 3. -/
def portByte : Port → Byte
  | .a => 1
  | .b => 2
  | .k => 3

/-- An optional port: its byte alone, 0 for absent. -/
def optPort (p : Option Port) : List Byte := [(p.map portByte).getD 0]

/-- An optional number: its presence byte, then its bytes, zero when absent. -/
def optNum (width : Nat) (n : Option Nat) : List Byte := flagByte n.isSome :: bigEndian width (n.getD 0)

/-- A channel state's place in R1's list. -/
def ChannelState.byte : ChannelState → Byte
  | .closed => 0
  | .opening => 1
  | .keying => 2
  | .active => 3
  | .closing => 4

/-- A renewal state's place in R97's list. -/
def RenewalState.byte : RenewalState → Byte
  | .idle => 0
  | .offered => 1
  | .agreed => 2
  | .cutover => 3

/-- A cause's code (R101). -/
def Cause.byte : Cause → Byte
  | .initial => 1
  | .preset => 2
  | .age => 3
  | .shop => 4
  | .command => 5
  | .resync => 6
  | .storm => 7

/-- A sync state's place in R71's list. -/
def SyncState.byte : SyncState → Byte
  | .sync => 0
  | .hunt => 1
  | .suspended => 2
  | .quarantine => 3

/-- A trunk state's value (R179). -/
def TrunkState.byte : TrunkState → Byte
  | .lost => 0
  | .acquiring => 1
  | .locked => 2

/-- A fault kind's code (R153). -/
def FaultKind.byte : FaultKind → Byte
  | .trunkLost => 1
  | .trunkLocked => 2
  | .trunkSlip => 3
  | .trunkFraming => 4
  | .portAbsent => 5
  | .portReturned => 6
  | .hardLimit => 7
  | .renewFail => 8
  | .resyncFail => 9
  | .syncLost => 10
  | .tagStorm => 11
  | .qualityLow => 12
  | .qualityOk => 13
  | .silent => 14
  | .inboundOverrun => 15
  | .masterErased => 16
  | .lost => 17

/-- A slot kind: its place in R38's list, then the channel id, zero for an entry that is not DATA (R47). -/
def SlotKind.bytes : SlotKind → List Byte
  | .unused => [0, 0]
  | .data c => [1, BitVec.ofNat 8 c.val]
  | .control => [2, 0]

/-- An optional slot kind (R47): presence, kind, channel id. -/
def optSlotKind (k : Option SlotKind) : List Byte :=
  match k with
  | none => [0, 0, 0]
  | some k => 1 :: k.bytes

/-- Frame parameters as results (R40, R46). -/
def FrameParams.bytes (f : FrameParams) : List Byte := u8 f.slots ++ u16 f.beatLen ++ u16 f.slip ++ u8 f.loss

/-- The nine period counts in R152's order. -/
def Counts.bytes (n : Counts) : List Byte :=
  u16 n.g ++ u16 n.t ++ u16 n.j ++ u16 n.e ++ u16 n.x ++ u16 n.r ++ u16 n.d ++ u16 n.withheld ++ u16 n.idle

end Sys2Proof.Machine
end

