-- ==== Sys2Proof/Machine/CommandUnit.lean ====
section
/-! DEFINITION. The command unit (R169 to R171), the checks of a channel command (R9) and adoption (R176). -/

namespace Sys2Proof.Machine

/-- What carrying out a command gives: the completion code, the results and the state. -/
structure Answer where
  completion : Completion
  results : List Byte
  state : State

/-- A refused command has no effect and no results (R166, R170). -/
def refuse (code : Completion) (s : State) : Answer := { completion := code, results := [], state := s }

/-- The ports a command code is admitted on (R171, 10.10). -/
def admittedOn (p : Port) (code : Byte) : Bool :=
  match p with
  | .a => !([0x30, 0x31, 0x7F].contains code.toNat)
  | .b => !([0x30, 0x31, 0x7F].contains code.toNat)
  | .k => [0x30, 0x31, 0x60, 0x70, 0x71, 0x72, 0x73, 0x7F].contains code.toNat

/-- The commands admitted while the startup condition is set: STATUS, CLEAR_STARTUP, RESET (R170, R172). -/
def inStartup (code : Byte) : Bool := [0x70, 0x71, 0x7F].contains code.toNat

/-- The ports in the order the command unit looks at them (R169). -/
def portsAfter : Port → List Port
  | .a => [.b, .k, .a]
  | .b => [.k, .a, .b]
  | .k => [.a, .b, .k]

/-- The port whose head frame the next taking removes (R169). -/
def State.nextPort (s : State) : Option Port :=
  (portsAfter s.lastPort).find? (fun p => !(s.link p).queue.isEmpty)

/-- A taking of this frame on port p can come now: the command unit is taking (R180), and the frame is the head frame of
the port that R169 chooses. With every queue empty, a frame is taken as it comes (log entry 3). -/
def State.canTake (s : State) (p : Port) (frame : List Byte) : Bool :=
  !s.resetLine && !s.halted &&
    match s.nextPort with
    | none => true
    | some q => decide (q = p) && decide ((s.link p).queue.head? = some frame)

/-- The head frame of port p leaves its queue, and p becomes the last port served (R169). -/
def State.taken (s : State) (p : Port) : State :=
  { s.setLink p { s.link p with queue := (s.link p).queue.tail } with lastPort := p }

/-- The command of the next taking: the head frame of the port that R169 chooses; none when every queue is empty, while
the reset line is asserted, and after a RESET (R180). -/
def State.nextTaking (s : State) : Option Instr :=
  if s.resetLine || s.halted then none
  else
    match s.nextPort with
    | none => none
    | some p => (s.link p).queue.head?.bind (commandOfFrame p)

/-- The judgement of a taken frame (R170): privilege, startup, then the command's own checks and effect. -/
def State.judge (s : State) (p : Port) (code : Byte) (body : State → Answer) : Answer :=
  if !admittedOn p code then refuse .privilege s
  else if s.startup && !inStartup code then refuse .startup s
  else body s

/-- A taking of a command frame (R169, R170); it does not happen where it cannot come now. -/
def State.taking (s : State) (p : Port) (tag code : Byte) (params : List Byte) (body : State → Answer) : State :=
  if s.canTake p (commandFrame code tag params) then
    let a := (s.taken p).judge p code body
    a.state.respond p tag code a.completion a.results
  else s

/-- A command of the service ports: the body is told which of the two sent it; port K is refused (R171). -/
def fromService (p : Port) (body : Service → State → Answer) (s : State) : Answer :=
  match serviceOf p with
  | some q => body q s
  | none => refuse .privilege s

/-! ## Adoption (R176, R177) -/

/-- Rise of the D count by a number of dropped cells (R139, R176). -/
def Channel.countDropped (r : Channel) (n : Nat) : Channel :=
  { r with quality := { r.quality with counts := { r.quality.counts with d := min 65535 (r.quality.counts.d + n) } } }

/-- How many cells of channel c a list holds. -/
def cellsOf (c : Fin 48) (cells : List Delivered) : Nat := (cells.filter (fun x => decide (x.channel = c))).length

/-- What an adoption by port p does: the state, the cells moved and the cells dropped. -/
structure Adoption where
  state : State
  moved : Nat
  dropped : Nat

/-- The adopted records: serving port p, and D counted for dropped cells (R176). -/
def State.adoptRecords (s : State) (chosen : List (Fin 48)) (p : Service) (dropped : List Delivered) : State :=
  chosen.foldl (fun t c => t.modChan c (fun r => { r.countDropped (cellsOf c dropped) with serving := some p })) s

/-- One INBOUND_OVERRUN for each channel that lost cells, in the order of the list, all of one event (R156, R176, R177). -/
def State.raiseOverruns (s : State) (chosen : List (Fin 48)) (p : Service) (dropped : List Delivered) : State :=
  chosen.foldl
    (fun t c =>
      if cellsOf c dropped = 0 then t
      else (t.inEvent s.log.event).raise .inboundOverrun (some c) (some p.port) (cellsOf c dropped)) s

/-- Adoption of the chosen channels by service port p: their cells move from the other queue in order while there is
room, and the rest are dropped (R176, R177). -/
def State.adoptAll (s : State) (chosen : List (Fin 48)) (p : Service) : Adoption :=
  let q := p.other
  let leaving := (s.inbound q).filter (fun x => chosen.contains x.channel)
  let staying := (s.inbound q).filter (fun x => !chosen.contains x.channel)
  let room := Config.inboundDepth - (s.inbound p).length
  let moved := leaving.take room
  let dropped := leaving.drop room
  let s1 := (s.setInbound q staying).setInbound p (s.inbound p ++ moved)
  { state := (s1.adoptRecords chosen p dropped).raiseOverruns chosen p dropped
    moved := moved.length
    dropped := dropped.length }

/-- Adoption of the one channel that an admitted channel command names (R9, R24). -/
def State.adoptFor (s : State) (c : Fin 48) (p : Service) : State :=
  if (s.chan c).serving = some p then s else (s.adoptAll [c] p).state

/-- The checks of R9 for a command that names a channel, then the command's own checks, then adoption and the effect. -/
def channelCommand (p : Port) (channel : Byte) (own : Channel → Option Completion)
    (effect : Fin 48 → State → Answer) (s : State) : Answer :=
  match serviceOf p, channelOf channel with
  | none, _ => refuse .privilege s
  | some _, none => refuse .range s
  | some q, some c =>
    if (s.chan c).state = .closed then refuse .state s
    else if (s.chan c).serving ≠ some q && s.ownerPresent (s.chan c) then refuse .notServing s
    else
      match own (s.chan c) with
      | some code => refuse code s
      | none => effect c (s.adoptFor c q)

end Sys2Proof.Machine
end

