-- ==== Sys2Proof/Machine/CellTransform.lean ====
section
/-! DEFINITION. Cells and the cell transform (chapter 3): the header, the four uses of B, and forming cells. -/

namespace Sys2Proof.Machine

/-! ## The header (R49, R50, R51) -/

/-- Kind codes (R50). -/
def CellKind.code : CellKind → BitVec 4
  | .idle => 0
  | .data => 1
  | .pad => 2
  | .offer => 8
  | .accept => 9
  | .switch => 10
  | .request => 11
  | .resync => 12
  | .mark => 13

/-- The kind a code names; codes 3 to 7, 14 and 15 name none (R50). -/
def kindOfCode (code : BitVec 4) : Option CellKind :=
  match code.toNat with
  | 0 => some .idle
  | 1 => some .data
  | 2 => some .pad
  | 8 => some .offer
  | 9 => some .accept
  | 10 => some .switch
  | 11 => some .request
  | 12 => some .resync
  | 13 => some .mark
  | _ => none

/-- Byte i of a header, byte 0 first (R48). -/
def headerByte (h : BitVec 64) (i : Nat) : Byte := h.extractLsb' (8 * (7 - i)) 8

/-- The kind field's code. -/
def headerKindCode (h : BitVec 64) : BitVec 4 := h.extractLsb' 60 4

/-- The epoch tag. -/
def headerEpochTag (h : BitVec 64) : BitVec 2 := h.extractLsb' 58 2

/-- The channel id field, 0 to 63. -/
def headerChannel (h : BitVec 64) : BitVec 6 := h.extractLsb' 48 6

/-- The sequence field. -/
def headerSequence (h : BitVec 64) : BitVec 24 := h.extractLsb' 24 24

/-- The length field. -/
def headerLength (h : BitVec 64) : BitVec 8 := h.extractLsb' 16 8

/-- The kind an arriving cell is taken as: its kind field alone (R43, R45, R52). -/
def cellKindOf (cell : Cell) : Option CellKind := kindOfCode (headerKindCode cell.header)

/-- CHECK: the eight header bytes sum to 255 modulo 256 (R51). -/
def checkPasses (h : BitVec 64) : Bool :=
  decide (headerByte h 0 + headerByte h 1 + headerByte h 2 + headerByte h 3 + headerByte h 4 + headerByte h 5 +
    headerByte h 6 + headerByte h 7 = 255#8)

/-- ZERO: the zero bits and the spare byte are 0 (R51). -/
def zeroPasses (h : BitVec 64) : Bool :=
  decide (h.extractLsb' 56 2 = 0#2) && decide (h.extractLsb' 54 2 = 0#2) && decide (headerByte h 6 = 0#8)

/-- KIND: the code names a kind (R51). -/
def kindPasses (h : BitVec 64) : Bool := (kindOfCode (headerKindCode h)).isSome

/-- CHANNEL: the channel id is 0 to 47 (R51). -/
def channelPasses (h : BitVec 64) : Bool := decide ((headerChannel h).toNat < 48)

/-- The length field of a control kind; none for the kinds whose length is not fixed by a content (R50, R58). -/
def CellKind.controlLength : CellKind → Option Nat
  | .idle => none
  | .data => none
  | .pad => none
  | .offer => some 13
  | .accept => some 17
  | .switch => some 1
  | .request => some 1
  | .resync => some 8
  | .mark => some 12

/-- SEQUENCE: below the hard limit for DATA and PAD, 0 for a control kind (R51). -/
def sequencePasses (k : CellKind) (h : BitVec 64) : Bool :=
  match k.controlLength with
  | some _ => decide (headerSequence h = 0)
  | none => decide ((headerSequence h).toNat < Config.hardLimit)

/-- LENGTH: 1 to 48 for DATA, 0 for PAD, the kind's own for a control kind (R51). -/
def lengthPasses (k : CellKind) (h : BitVec 64) : Bool :=
  match k.controlLength with
  | some n => decide ((headerLength h).toNat = n)
  | none =>
    match k with
    | .data => decide (1 ≤ (headerLength h).toNat) && decide ((headerLength h).toNat ≤ 48)
    | _ => decide ((headerLength h).toNat = 0)

/-- The six checks of R51 on a header of kind k. -/
def headerSound (k : CellKind) (h : BitVec 64) : Bool :=
  checkPasses h && zeroPasses h && kindPasses h && channelPasses h && sequencePasses k h && lengthPasses k h

/-- The header check byte over bytes 0 to 6 (R49). -/
def headerCheck (front : BitVec 56) : Byte :=
  255#8 - (front.extractLsb' 48 8 + front.extractLsb' 40 8 + front.extractLsb' 32 8 + front.extractLsb' 24 8 +
    front.extractLsb' 16 8 + front.extractLsb' 8 8 + front.extractLsb' 0 8)

/-- Bytes 0 to 6 of a header (R49). -/
def headerFront (kind : CellKind) (epoch : BitVec 8) (c : Fin 48) (sequence : BitVec 24) (length : BitVec 8) : BitVec 56 :=
  kind.code ++ epoch.extractLsb' 0 2 ++ 0#2 ++ 0#2 ++ BitVec.ofNat 6 c.val ++ sequence ++ length ++ 0#8

/-- A header as the part writes it: zero bits and spare byte 0, epoch tag the epoch modulo 4, header check last (R49,
R57). -/
def header (kind : CellKind) (epoch : BitVec 8) (c : Fin 48) (sequence : BitVec 24) (length : BitVec 8) : BitVec 64 :=
  headerFront kind epoch c sequence length ++ headerCheck (headerFront kind epoch c sequence length)

/-! ## The uses of B (R53 to R56, R60) -/

/-- B(K, X) (R53). -/
def blockTransform (k x : Block) : Block := Config.blockPerm k x

/-- The key derivation of R54. -/
def deriveEntry (m : Block) (c : Fin 48) (epoch : BitVec 8) (shop : BitVec 32) (partNonce shopNonce : BitVec 64) :
    KeyEntry :=
  let t1 := blockTransform m (BitVec.ofNat 8 c.val ++ epoch ++ shop ++ partNonce ++ 0#16)
  let t2 := blockTransform m (t1 ^^^ (shopNonce ++ 0#64))
  { epoch := epoch
    keys :=
      { kEnc := blockTransform m (t2 ^^^ (1#8 ++ 0#120)), kTag := blockTransform m (t2 ^^^ (2#8 ++ 0#120)) } }

/-- The base entry of a channel: epoch 0 and all-zero nonces (R54). -/
def baseEntry (m : Block) (c : Fin 48) (shop : BitVec 32) : KeyEntry := deriveEntry m c 0 shop 0 0

/-- Keystream block j of a cell (R55). -/
def keystreamBlock (key : KeyEntry) (direction : BitVec 8) (c : Fin 48) (sequence : BitVec 24) (j : BitVec 8) : Block :=
  blockTransform key.keys.kEnc (direction ++ BitVec.ofNat 8 c.val ++ key.epoch ++ sequence ++ j ++ 0#72)

/-- The three keystream blocks side by side (R55). -/
def keystream (key : KeyEntry) (direction : BitVec 8) (c : Fin 48) (sequence : BitVec 24) : BitVec 384 :=
  keystreamBlock key direction c sequence 0 ++ keystreamBlock key direction c sequence 1 ++
    keystreamBlock key direction c sequence 2

/-- The tag chain of R56. -/
def tagOf (kTag : Block) (h : BitVec 64) (c0 c1 c2 : Block) : BitVec 64 :=
  let x0 := blockTransform kTag (h ++ 0#64)
  let x1 := blockTransform kTag (x0 ^^^ c0)
  let x2 := blockTransform kTag (x1 ^^^ c1)
  let x3 := blockTransform kTag (x2 ^^^ c2)
  x3.extractLsb' 64 64

/-- The tag check of R56. -/
def tagValid (kTag : Block) (cell : Cell) : Bool :=
  decide (tagOf kTag cell.header cell.c0 cell.c1 cell.c2 = cell.tag)

/-- The check value of a master key (R60). -/
def checkValue (m : Block) : BitVec 24 := (blockTransform m 0).extractLsb' 104 24

/-! ## Whole cells -/

/-- The 48 payload bytes of a cell. -/
def cellPayload (cell : Cell) : BitVec 384 := cell.c0 ++ cell.c1 ++ cell.c2

/-- A cell with its tag (R48, R56). -/
def sealCell (kTag : Block) (h : BitVec 64) (payload : BitVec 384) : Cell :=
  let c0 : Block := payload.extractLsb' 256 128
  let c1 : Block := payload.extractLsb' 128 128
  let c2 : Block := payload.extractLsb' 0 128
  { header := h, c0 := c0, c1 := c1, c2 := c2, tag := tagOf kTag h c0 c1 c2 }

/-- The IDLE cell the part sends (R52). -/
def idleCell : Cell := { header := 255#64, c0 := 0, c1 := 0, c2 := 0, tag := 0 }

/-- A DATA or PAD cell formed under an entry (R55): direction value 1. -/
def trafficCell (kind : CellKind) (key : KeyEntry) (c : Fin 48) (sequence : Nat) (length : Nat) (plain : BitVec 384) :
    Cell :=
  let q := BitVec.ofNat 24 sequence
  sealCell key.keys.kTag (header kind key.epoch c q (BitVec.ofNat 8 length)) (plain ^^^ keystream key 1 c q)

/-- The plaintext of an arriving DATA or PAD cell: direction value 2 (R55). -/
def decipher (key : KeyEntry) (c : Fin 48) (cell : Cell) : BitVec 384 :=
  cellPayload cell ^^^ keystream key 2 c (headerSequence cell.header)

/-- A control cell: sequence 0, the kind's length, a clear payload, and the tag of the tagging entry (R57, R59). -/
def controlCell (kind : CellKind) (key : KeyEntry) (c : Fin 48) (payload : BitVec 384) : Cell :=
  sealCell key.keys.kTag (header kind key.epoch c 0 (BitVec.ofNat 8 (kind.controlLength.getD 0))) payload

/-- OFFER payload (R58). -/
def offerPayload (epoch : BitVec 8) (partNonce : BitVec 64) (shop : BitVec 32) : BitVec 384 :=
  epoch ++ partNonce ++ shop ++ 0#280

/-- SWITCH payload (R58). -/
def switchPayload (epoch : BitVec 8) : BitVec 384 := epoch ++ 0#376

/-- RESYNC payload (R58). -/
def resyncPayload (challenge : BitVec 64) : BitVec 384 := challenge ++ 0#320

/-- MARK payload (R58). -/
def markPayload (challenge : BitVec 64) (epoch : BitVec 8) (next : BitVec 24) : BitVec 384 :=
  challenge ++ epoch ++ next ++ 0#288

/-- The new epoch field of an arriving ACCEPT (R58). -/
def acceptEpoch (p : BitVec 384) : BitVec 8 := p.extractLsb' 376 8

/-- The part nonce that an arriving ACCEPT echoes (R58). -/
def acceptPartNonce (p : BitVec 384) : BitVec 64 := p.extractLsb' 312 64

/-- The shop nonce of an arriving ACCEPT (R58). -/
def acceptShopNonce (p : BitVec 384) : BitVec 64 := p.extractLsb' 248 64

/-- The challenge field of an arriving RESYNC or MARK (R58). -/
def challengeField (p : BitVec 384) : BitVec 64 := p.extractLsb' 320 64

/-- The epoch field of an arriving MARK (R58). -/
def markEpoch (p : BitVec 384) : BitVec 8 := p.extractLsb' 312 8

/-- The next-sequence field of an arriving MARK (R58). -/
def markNext (p : BitVec 384) : BitVec 24 := p.extractLsb' 288 24

/-- The epoch tag of an epoch: the epoch modulo 4 (R57). -/
def epochTag (epoch : BitVec 8) : BitVec 2 := epoch.extractLsb' 0 2

/-- A payload of data bytes followed by zero bytes to 48 (R17). -/
def payloadOf (data : List Byte) : BitVec 384 :=
  BitVec.ofNat 384 (ofBigEndian data * 256 ^ (48 - data.length))

/-- The first `length` bytes of a payload (R82). -/
def dataOf (length : Nat) (payload : BitVec 384) : List Byte := (bigEndian 48 payload.toNat).take length

end Sys2Proof.Machine
end

