-- ==== Sys2Proof/Machine/Renewal.lean ====
section
/-! DEFINITION. The renewal unit (chapter 6) and the pending lists it queues in (R124 to R126). -/

namespace Sys2Proof.Machine

/-! ## Pending lists (R124 to R126) -/

/-- The family of a pending control cell (R124). -/
def ControlCell.family : ControlCell → Family
  | .offer _ _ => .renewal
  | .switch _ => .renewal
  | .resync _ => .challenge
  | .mark _ => .answer

/-- Queueing: the tail of the list when the family is empty, otherwise the place of the family's entry (R125). -/
def enqueue (cell : ControlCell) (list : List ControlCell) : List ControlCell :=
  if list.any (fun x => decide (x.family = cell.family)) then
    list.map (fun x => if x.family = cell.family then cell else x)
  else list ++ [cell]

/-- A control cell is queued for the channel (R125). -/
def Channel.queueCell (r : Channel) (cell : ControlCell) : Channel :=
  { r with pendingCells := enqueue cell r.pendingCells }

/-- The entry of a family is withdrawn; an empty family leaves the list as it is (R126). -/
def Channel.withdraw (r : Channel) (f : Family) : Channel :=
  { r with pendingCells := r.pendingCells.filter (fun x => decide (x.family ≠ f)) }

/-- The resync exchange is ended (R74). -/
def Channel.endExchange (r : Channel) : Channel :=
  { r.withdraw .challenge with challenge := none, resyncRetries := 0, resyncTimer := none }

/-! ## Triggers and the start of a renewal (R98, R101, R103, R105) -/

/-- The forcing causes (R101). -/
def Cause.forcing : Cause → Bool
  | .initial => false
  | .preset => false
  | .age => false
  | .shop => false
  | .command => true
  | .resync => true
  | .storm => true

/-- A trigger on the flag: a noting cause sets a clear flag, a forcing cause replaces any cause (R101). -/
def Channel.note (r : Channel) (k : Cause) : Channel :=
  { r with wanted := if k.forcing then some k else some (r.wanted.getD k) }

/-- The epoch after another: 1 follows 255 (R98). -/
def epochAfter (e : BitVec 8) : BitVec 8 := if e = 255 then 1 else e + 1

/-- The new epoch of a renewal that starts now (R98). -/
def Channel.newEpoch (r : Channel) : BitVec 8 :=
  match r.current with
  | some e => epochAfter e.key.epoch
  | none => 1

/-- R103's conditions for a start. -/
def Channel.startDue (r : Channel) : Bool :=
  r.triggerable && decide (r.renewal = .idle) &&
    match r.wanted with
    | some k => decide (r.holdOff = 0) || k.forcing
    | none => false

/-- The start of a renewal on the record, with the nonce drawn for it (R105). -/
def Channel.startRenewal (r : Channel) (retries : Nat) (nonce : BitVec 64) : Channel :=
  { r.queueCell (.offer r.newEpoch nonce) with
    pendingEntry := some { epoch := r.newEpoch, nonce := nonce, keys := none }
    renewRetries := retries
    offerTimer := none
    renewal := .offered }

/-- A renewal starts when R103's conditions hold (R103, R105). -/
def State.startIfDue (s : State) (c : Fin 48) : State :=
  if (s.chan c).startDue then
    (s.modChan c (fun r => r.startRenewal s.renewalParams.retryLimit s.nextNonce)).afterDraw
  else s

/-- A trigger reaches a channel (R101, R103). -/
def State.trigger (s : State) (c : Fin 48) (k : Cause) : State :=
  if (s.chan c).triggerable then (s.modChan c (·.note k)).startIfDue c else s

/-- The AGE trigger's comparison (R102). -/
def State.judgeAge (s : State) (c : Fin 48) : State :=
  if (s.chan c).ageReached then s.trigger c .age else s

/-! ## The offer timer and failure (R106 to R108) -/

/-- The cause that a failed renewal leaves noted (R108 step 5). -/
def Channel.standingCause (r : Channel) : Option Cause :=
  if r.state = .keying then some .initial
  else if r.ageReached then some .age
  else if r.presetReached then some .preset
  else none

/-- The end of a renewal in failure, on the record (R108 steps 2 to 5). -/
def Channel.failRenewal (r : Channel) (tOffer : Nat) : Channel :=
  { r.withdraw .renewal with
    pendingEntry := none
    offerTimer := none
    renewRetries := 0
    renewal := .idle
    holdOff := 8 * tOffer
    wanted := r.standingCause }

/-- The epoch a running renewal offers (R108). -/
def Channel.offeredEpoch (r : Channel) : Nat :=
  match r.pendingEntry with
  | some p => p.epoch.toNat
  | none => 0

/-- A renewal ends in failure (R108). -/
def State.failRenewal (s : State) (c : Fin 48) : State :=
  (s.raiseFor .renewFail c (s.chan c).offeredEpoch).modChan c (·.failRenewal s.renewalParams.tOffer)

/-- The OFFER is queued again with the same values (R107). -/
def Channel.requeueOffer (r : Channel) : Channel :=
  let q := match r.pendingEntry with
    | some p => r.queueCell (.offer p.epoch p.nonce)
    | none => r
  { q with renewRetries := r.renewRetries - 1, offerTimer := none }

/-- An offer timer that stands at 0 expires (R107). -/
def State.offerExpired (s : State) (c : Fin 48) : State :=
  if (s.chan c).offerTimer = some 0 then
    if 0 < (s.chan c).renewRetries then s.modChan c Channel.requeueOffer else s.failRenewal c
  else s

/-! ## ACCEPT, SWITCH and cutover (R110, R112, R113, R115) -/

/-- A verified ACCEPT on the record (R110). -/
def Channel.agree (r : Channel) (p : PendingEntry) (keys : KeyPair) : Channel :=
  { r.queueCell (.switch p.epoch) with
    pendingEntry := some { p with keys := some keys }
    offerTimer := none
    renewal := .agreed }

/-- An empty receive window (R61). -/
def Window.empty : Window := { high := none, seen := [] }

/-- Step 6 of a key installation (R112): a SWITCH ends HUNT and QUARANTINE with their exchange. -/
def Channel.installSync (r : Channel) : Channel :=
  if r.sync.placing then r else { r.endExchange with sync := .sync, syncLoss := 0 }

/-- The entry that a pending entry with keys becomes when it is installed (R112, R113). -/
def freshEntry (epoch : BitVec 8) (keys : KeyPair) : CurrentEntry :=
  { key := { epoch := epoch, keys := keys }, nextTx := 0, age := 0, window := Window.empty }

/-- The key installation of a SWITCH on an ACTIVE channel (R112). -/
def Channel.install (r : Channel) (epoch : BitVec 8) (keys : KeyPair) (cutover : Nat) : Channel :=
  { r.installSync with
    current := some (freshEntry epoch keys)
    previous := r.current.map (fun e => { key := e.key, window := e.window, cutover := cutover })
    pendingEntry := none
    held := false
    wanted := none
    holdOff := 0
    renewal := .cutover }

/-- The key installation of the initial SWITCH, on a KEYING channel (R113). -/
def Channel.installInitial (r : Channel) (epoch : BitVec 8) (keys : KeyPair) : Channel :=
  { r.installSync with
    current := some (freshEntry epoch keys)
    base := none
    pendingEntry := none
    held := false
    wanted := none
    holdOff := 0
    renewal := .idle
    state := .active }

/-- The effect of sending a SWITCH (R112, R113, R128). -/
def Channel.switchSent (r : Channel) (cutover : Nat) : Channel :=
  match r.pendingEntry with
  | some { epoch := epoch, nonce := _, keys := some keys } =>
    if r.state = .keying then r.installInitial epoch keys else r.install epoch keys cutover
  | _ => r

/-- The end of a cutover on the record (R115 steps 1 and 2). -/
def Channel.endCutover (r : Channel) : Channel := { r with previous := none, renewal := .idle }

/-- A cutover timer that stands at 0 expires (R115). -/
def State.cutoverExpired (s : State) (c : Fin 48) : State :=
  match (s.chan c).previous with
  | some p => if p.cutover = 0 then (s.modChan c Channel.endCutover).startIfDue c else s
  | none => s

/-! ## Initial keying (R11, R116) -/

/-- The master key of the slot a channel is bound to, as the store holds it now (R89). -/
def State.masterKey (s : State) (r : Channel) : Option Block :=
  match r.master with
  | some m =>
    match s.masters[m] with
    | .loaded key _ => some key
    | .empty => none
  | none => none

/-- The base entry that entry to KEYING derives (R116); absent only on a record that R88 excludes. -/
def State.derivedBase (s : State) (c : Fin 48) : Option KeyEntry :=
  match s.masterKey (s.chan c), (s.chan c).shop with
  | some m, some shop => some (baseEntry m c shop)
  | _, _ => none

/-- The record on entry to KEYING: base entry, running silence timer at 0 (R11, R116, R147). -/
def Channel.enterKeying (r : Channel) (base : Option KeyEntry) : Channel :=
  { r with
    state := .keying
    base := base
    quality := { r.quality with silenceRunning := true, silence := 0 } }

/-- At the tick, a channel that is still OPENING becomes KEYING and its initial renewal starts (R11, R116). -/
def State.keyingEntry (s : State) (c : Fin 48) : State :=
  if (s.chan c).state = .opening then
    (s.modChan c (·.enterKeying (s.derivedBase c))).trigger c .initial
  else s

/-! ## Requests from the shop (R118) -/

/-- R118's conditions for honouring a REQUEST. -/
def Channel.honours (r : Channel) (tOffer : Nat) : Bool :=
  decide (r.state = .active) && decide (r.renewal = .idle) && decide (r.holdOff = 0) &&
    match r.current with
    | some e => decide (8 * tOffer ≤ e.age)
    | none => false

/-- A valid REQUEST is honoured, or counted stray (R118). -/
def State.judgeRequest (s : State) (c : Fin 48) : State :=
  if (s.chan c).honours s.renewalParams.tOffer then s.trigger c .shop else s.countStray

end Sys2Proof.Machine
end

