-- ==== Sys2Proof/Machine/Channels.lean ====
section
/-! DEFINITION. Shop channels (chapter 1): teardown and closure, the DATA-slot load event, and the commands OPEN, CLOSE,
SET_CHANNEL, SEND and READ_CHANNEL. -/

namespace Sys2Proof.Machine

/-! ## Teardown and closure (R12, R14, R15) -/

/-- Teardown on the record, steps 2 to 7 of R12, with the timers and the resync exchange ended (R74, R119). The state,
serving port, master slot, shop code, parameters and quality state stay. -/
def Channel.teardown (r : Channel) : Channel :=
  { r with
    outbound := []
    pendingCells := []
    renewal := .idle
    wanted := none
    holdOff := 0
    offerTimer := none
    renewRetries := 0
    challenge := none
    resyncRetries := 0
    resyncTimer := none
    current := none
    previous := none
    pendingEntry := none
    base := none
    held := false
    sync := .sync
    syncLoss := 0 }

/-- The cells of channel c in its serving port's inbound queue (R12 step 1). -/
def State.inboundCount (s : State) (c : Fin 48) : Nat :=
  match (s.chan c).serving with
  | some q => cellsOf c (s.inbound q)
  | none => 0

/-- The cells of channel c leave its serving port's inbound queue (R12 step 1, R85). -/
def State.removeInbound (s : State) (c : Fin 48) : State :=
  match (s.chan c).serving with
  | some q => s.setInbound q ((s.inbound q).filter (fun x => decide (x.channel ≠ c)))
  | none => s

/-- Teardown of a channel (R12). -/
def State.teardown (s : State) (c : Fin 48) : State := (s.removeInbound c).modChan c Channel.teardown

/-- An immediate closure (R15). -/
def State.closeNow (s : State) (c : Fin 48) : State := (s.teardown c).setChan c Channel.closedValues

/-- At the tick, a channel that is still CLOSING becomes CLOSED (R14). -/
def State.closingEnd (s : State) (c : Fin 48) : State :=
  if (s.chan c).state = .closing then s.setChan c Channel.closedValues else s

/-! ## The DATA-slot load event (R20 to R22) -/

/-- The cell a channel sends, with the kind, length and plaintext of the head of its outbound queue, or PAD (R20). -/
def Channel.nextCell (r : Channel) (e : CurrentEntry) (c : Fin 48) : Cell :=
  match r.outbound with
  | x :: _ => trafficCell .data e.key c e.nextTx x.length x.payload
  | [] => trafficCell .pad e.key c e.nextTx 0 0

/-- The record after it has sent a cell: the head leaves and the next tx sequence advances (R20). -/
def Channel.afterSend (r : Channel) (e : CurrentEntry) : Channel :=
  { r with outbound := r.outbound.tail, current := some { e with nextTx := e.nextTx + 1 } }

/-- The hard limit: the next tx sequence stands at 16,776,960 (R21). -/
def Channel.atHardLimit (r : Channel) : Bool :=
  match r.current with
  | some e => decide (r.state = .active) && decide (e.nextTx = Config.hardLimit)
  | none => false

/-- The current epoch as a fault detail. -/
def Channel.currentEpoch (r : Channel) : Nat :=
  match r.current with
  | some e => e.key.epoch.toNat
  | none => 0

/-- The channel becomes HELD and HARD_LIMIT is raised, when it stands at the limit and is not HELD yet (R21). -/
def State.judgeHardLimit (s : State) (c : Fin 48) : State :=
  if (s.chan c).atHardLimit && !(s.chan c).held then
    (s.modChan c (fun r => { r with held := true })).raiseFor .hardLimit c (s.chan c).currentEpoch
  else s

/-- The PRESET trigger: the last cell sent carried a sequence at or above the preset (R22). -/
def State.judgePreset (s : State) (c : Fin 48) : State :=
  if decide ((s.chan c).state = .active) && (s.chan c).presetReached then s.trigger c .preset else s

/-- The load event of a served DATA slot of channel c (R20, R42). -/
def State.loadData (s : State) (c : Fin 48) : State :=
  match (s.chan c).current with
  | some e =>
    if (s.chan c).state = .active ∧ (s.chan c).held = false then
      ((({ s with lineOut := some ((s.chan c).nextCell e c) }).modChan c (·.afterSend e)).judgeHardLimit c).judgePreset c
    else { s with lineOut := some idleCell }
  | none => { s with lineOut := some idleCell }

/-! ## OPEN (R10) -/

/-- The record that OPEN fills (R10). -/
def Channel.opened (slot : Fin 4) (shop : BitVec 32) (serving : Service) : Channel :=
  { Channel.closedValues with state := .opening, serving := some serving, master := some slot, shop := some shop }

/-- A master slot is EMPTY (R87). -/
def State.masterEmpty (s : State) (m : Fin 4) : Bool :=
  match s.masters[m] with
  | .empty => true
  | .loaded _ _ => false

/-- OPEN's checks and effect (R10). -/
def openBody (channel : Byte) (shop : BitVec 32) (slot serving : Byte) (s : State) : Answer :=
  match channelOf channel, masterOf slot, servingOf serving with
  | some c, some m, some q =>
    if shop = 0 then refuse .range s
    else if (s.chan c).state ≠ .closed then refuse .state s
    else if s.masterEmpty m then refuse .noMaster s
    else { completion := .done, results := [], state := s.setChan c (Channel.opened m shop q) }
  | _, _, _ => refuse .range s

/-- OPEN is taken (R10). -/
def execOpen (p : Port) (tag channel : Byte) (shop : BitVec 32) (slot serving : Byte) (s : State) :
    Host.Outcome State Fault Refusal :=
  .next (s.taking p tag 0x01 (channel :: bigEndian 4 shop.toNat ++ [slot, serving])
    (fromService p (fun _ => openBody channel shop slot serving)))

/-! ## CLOSE (R13) -/

/-- The record of a channel that CLOSE makes CLOSING; its silence timer stops and keeps its count (R13, R147). -/
def Channel.closing (r : Channel) : Channel :=
  { r.teardown with state := .closing, quality := { r.quality with silenceRunning := false } }

/-- CLOSE's effect (R13). -/
def closeEffect (c : Fin 48) (s : State) : Answer :=
  { completion := .done
    results := u8 (s.chan c).outbound.length ++ u8 (s.inboundCount c)
    state := (s.removeInbound c).modChan c Channel.closing }

/-- A command that a CLOSING channel refuses (R13, R17). -/
def refusedClosing (r : Channel) : Option Completion := if r.state = .closing then some .state else none

/-- CLOSE is taken (R13). -/
def execClose (p : Port) (tag channel : Byte) (s : State) : Host.Outcome State Fault Refusal :=
  .next (s.taking p tag 0x02 [channel] (channelCommand p channel refusedClosing closeEffect))

/-! ## SET_CHANNEL (R16) -/

/-- SET_CHANNEL's effect: both parameters clamped and written, then the AGE comparison (R8, R16, R102). -/
def setChannelEffect (preset ageLimit : Nat) (c : Fin 48) (s : State) : Answer :=
  { completion := clampedAnswer (preset, ageLimit) (clampPreset preset, clampAgeLimit ageLimit)
    results := u24 (clampPreset preset) ++ u32 (clampAgeLimit ageLimit)
    state := (s.modChan c (fun r => { r with preset := clampPreset preset, ageLimit := clampAgeLimit ageLimit })).judgeAge c }

/-- SET_CHANNEL is taken (R16). -/
def execSetChannel (p : Port) (tag channel : Byte) (preset ageLimit : BitVec 32) (s : State) :
    Host.Outcome State Fault Refusal :=
  .next (s.taking p tag 0x03 (channel :: bigEndian 4 preset.toNat ++ bigEndian 4 ageLimit.toNat)
    (channelCommand p channel (fun _ => none) (setChannelEffect preset.toNat ageLimit.toNat)))

/-! ## SEND (R17) -/

/-- SEND's own checks (R17). -/
def refusedSend (r : Channel) : Option Completion :=
  if r.state = .closing then some .state
  else if Config.outboundDepth ≤ r.outbound.length then some .queueFull
  else none

/-- The outbound cell of SEND's data (R17). -/
def outboundCell (data : List Byte) : OutboundCell := { length := data.length, payload := payloadOf data }

/-- SEND's effect (R17). -/
def sendEffect (data : List Byte) (c : Fin 48) (s : State) : Answer :=
  { completion := .done
    results := u8 ((s.chan c).outbound.length + 1)
    state := s.modChan c (fun r => { r with outbound := r.outbound ++ [outboundCell data] }) }

/-- SEND's checks: the data length first (R9 step 1, R17). -/
def sendBody (p : Port) (channel : Byte) (data : List Byte) (s : State) : Answer :=
  if data.length = 0 ∨ 48 < data.length then refuse .range s
  else channelCommand p channel refusedSend (sendEffect data) s

/-- SEND is taken (R17). -/
def execSend (p : Port) (tag channel : Byte) (data : List Byte) (s : State) : Host.Outcome State Fault Refusal :=
  .next (s.taking p tag 0x04 (channel :: data) (sendBody p channel data))

/-! ## READ_CHANNEL (R23) -/

/-- The kind code of the cell pending in a family, 0 when it is empty (R166). -/
def Channel.familyByte (r : Channel) (f : Family) : Byte :=
  match r.pendingCells.find? (fun x => decide (x.family = f)) with
  | none => 0
  | some (.offer _ _) => 8
  | some (.switch _) => 10
  | some (.resync _) => 12
  | some (.mark _) => 13

/-- READ_CHANNEL's results in the order of R23's table, encoded as R166 gives. -/
def Channel.summary (r : Channel) : List Byte :=
  [r.state.byte] ++ optPort (r.serving.map Service.port) ++ optNum 1 (r.master.map (·.val)) ++
    optNum 4 (r.shop.map (·.toNat)) ++ optNum 1 (r.current.map (·.key.epoch.toNat)) ++
    u24 ((r.current.map (·.nextTx)).getD 0) ++ u32 ((r.current.map (·.age)).getD 0) ++
    optNum 1 (r.previous.map (·.key.epoch.toNat)) ++ u8 ((r.previous.map (·.cutover)).getD 0) ++
    optNum 1 (r.pendingEntry.map (·.epoch.toNat)) ++ [flagByte ((r.pendingEntry.bind (·.keys)).isSome)] ++
    [r.renewal.byte, (r.wanted.map Cause.byte).getD 0] ++ u16 r.holdOff ++ [r.sync.byte] ++ u8 r.syncLoss ++
    [flagByte r.held] ++ u8 r.outbound.length ++
    [r.familyByte .renewal, r.familyByte .challenge, r.familyByte .answer] ++ u24 r.preset ++ u32 r.ageLimit

/-- READ_CHANNEL's check and results (R23). -/
def readChannelBody (channel : Byte) (s : State) : Answer :=
  match channelOf channel with
  | some c => { completion := .done, results := (s.chan c).summary, state := s }
  | none => refuse .range s

/-- READ_CHANNEL is taken (R23). -/
def execReadChannel (p : Port) (tag channel : Byte) (s : State) : Host.Outcome State Fault Refusal :=
  .next (s.taking p tag 0x05 [channel] (fromService p (fun _ => readChannelBody channel)))

end Sys2Proof.Machine
end

