-- ==== Sys2Proof/Machine/Quality.lean ====
section
/-! DEFINITION. Line quality and liveness (chapter 8): the period counts, tag storms, scoring, silence, and the commands
READ_QUALITY and SET_QUALITY. -/

namespace Sys2Proof.Machine

/-! ## Period counts (R139) -/

/-- Change the period counts of a record. -/
def Channel.modCounts (r : Channel) (f : Counts → Counts) : Channel :=
  { r with quality := { r.quality with counts := f r.quality.counts } }

/-- An outcome G, which restarts a running silence timer (R139, R147). -/
def Channel.countG (r : Channel) : Channel :=
  { r with
    quality :=
      { r.quality with
        counts := { r.quality.counts with g := bump r.quality.counts.g }
        silence := if r.quality.silenceRunning then 0 else r.quality.silence } }

/-- An outcome J. -/
def Channel.countJ (r : Channel) : Channel := r.modCounts (fun n => { n with j := bump n.j })

/-- An outcome E. -/
def Channel.countE (r : Channel) : Channel := r.modCounts (fun n => { n with e := bump n.e })

/-- An outcome X. -/
def Channel.countX (r : Channel) : Channel := r.modCounts (fun n => { n with x := bump n.x })

/-- An outcome R. -/
def Channel.countR (r : Channel) : Channel := r.modCounts (fun n => { n with r := bump n.r })

/-- An outcome D. -/
def Channel.countD (r : Channel) : Channel := r.modCounts (fun n => { n with d := bump n.d })

/-- A withheld cell. -/
def Channel.countWithheld (r : Channel) : Channel := r.modCounts (fun n => { n with withheld := bump n.withheld })

/-- An idle arrival. -/
def Channel.countIdle (r : Channel) : Channel := r.modCounts (fun n => { n with idle := bump n.idle })

/-! ## Tag storms (R145, R146) -/

/-- The storm mark is set (R145). -/
def Channel.markStorm (r : Channel) : Channel := { r with quality := { r.quality with storm := true } }

/-- A storm acts on an ACTIVE channel in SYNC, SUSPENDED or HUNT (R145). -/
def Channel.stormActs (r : Channel) : Bool := decide (r.state = .active) && decide (r.sync ≠ .quarantine)

/-- QUARANTINE, with the resync exchange ended (R79, R146 step 1). -/
def Channel.quarantine (r : Channel) : Channel := { r.endExchange with sync := .quarantine, syncLoss := 0 }

/-- A storm that acts (R146). -/
def State.storm (s : State) (c : Fin 48) : State :=
  ((s.modChan c Channel.quarantine).raiseFor .tagStorm c (s.chan c).quality.counts.t).trigger c .storm

/-- The judgement of a storm (R145). -/
def State.judgeStorm (s : State) (c : Fin 48) : State :=
  if (s.chan c).quality.stormDue s.qualityParams.stormLimit then
    if (s.chan c).stormActs then (s.modChan c Channel.markStorm).storm c else s.modChan c Channel.markStorm
  else s

/-- An outcome T, judged for a storm in the same event (R139, R145). -/
def State.countT (s : State) (c : Fin 48) : State :=
  (s.modChan c (·.modCounts (fun n => { n with t := bump n.t }))).judgeStorm c

/-! ## The period end (R140 to R143) -/

/-- The period end for one channel: counts copied, scored, the low flag judged, counts cleared (R141 to R143). -/
def State.scoreChannel (s : State) (c : Fin 48) : State :=
  if (s.chan c).state = .closed then s
  else
    let q := (s.chan c).quality.closePeriod
    let low := lowFlagAfter s.qualityParams.low s.qualityParams.high q.smoothed q.low
    let s1 := s.modChan c (fun r => { r with quality := { q with low := low } })
    if low = q.low then s1
    else if low then s1.raiseFor .qualityLow c q.smoothed
    else s1.raiseFor .qualityOk c q.smoothed

/-! ## Silence (R147, R148) -/

/-- The silence count of a running timer is at or above the limit (R148). -/
def Quality.silent (q : Quality) (limit : Nat) : Bool := q.silenceRunning && decide (limit ≤ q.silence)

/-- A channel whose silence count has reached the limit is closed by silence (R148). -/
def State.judgeSilence (s : State) (c : Fin 48) : State :=
  if (s.chan c).quality.silent s.qualityParams.silenceLimit then
    (s.raiseFor .silent c (s.chan c).quality.silence).closeNow c
  else s

/-! ## READ_QUALITY (R152) and SET_QUALITY (R150) -/

/-- READ_QUALITY's results of a channel, in R152's order. -/
def Quality.bytes (q : Quality) : List Byte :=
  optNum 2 q.lastScore ++ u16 q.smoothed ++ [flagByte q.low, flagByte q.storm, flagByte q.silenceRunning] ++
    u16 q.silence ++ q.last.bytes ++ q.counts.bytes

/-- READ_QUALITY's check and results (R152). -/
def readQualityBody (channel : Byte) (s : State) : Answer :=
  match channelOf channel with
  | some c =>
    { completion := .done
      results := (s.chan c).quality.bytes ++ u16 s.periodTimer ++ u16 s.qualityParams.period
      state := s }
  | none => refuse .range s

/-- READ_QUALITY is taken (R152). -/
def execReadQuality (p : Port) (tag channel : Byte) (s : State) : Host.Outcome State Fault Refusal :=
  .next (s.taking p tag 0x50 [channel] (fromService p (fun _ => readQualityBody channel)))

/-- SET_QUALITY's clamps, its RELATION check and its effect (R150). -/
def setQualityBody (given : QualityParams) (s : State) : Answer :=
  let used := clampQuality given
  if used.high ≤ used.low then refuse .relation s
  else
    { completion := clampedAnswer given used
      results := u16 used.period ++ u16 used.low ++ u16 used.high ++ u8 used.stormLimit ++ u16 used.silenceLimit
      state := { s with qualityParams := used } }

/-- SET_QUALITY is taken (R150). -/
def execSetQuality (p : Port) (tag : Byte) (period low high : BitVec 16) (storm : Byte) (silence : BitVec 16) (s : State) :
    Host.Outcome State Fault Refusal :=
  .next (s.taking p tag 0x51
    (bigEndian 2 period.toNat ++ bigEndian 2 low.toNat ++ bigEndian 2 high.toNat ++ storm :: bigEndian 2 silence.toNat)
    (fromService p (fun _ =>
      setQualityBody
        { period := period.toNat, low := low.toNat, high := high.toNat, stormLimit := storm.toNat,
          silenceLimit := silence.toNat })))

end Sys2Proof.Machine
end

