-- ==== Sys2Proof/Machine/Receive.lean ====
section
/-! DEFINITION. Receive acceptance and delivery (chapter 4): windows, sync states, the resync exchange, acceptance of an
arrival, and the commands TAKE, RESUME and SET_SYNC. -/

namespace Sys2Proof.Machine

/-! ## Receive windows (R61, R66, R68, R77) -/

/-- The outcomes of the window pre-check (R66). -/
inductive PreCheck where
  | acceptable
  | jump
  | stale
  | duplicate
  deriving DecidableEq, Repr

/-- The window pre-check of sequence q under jump limit j (R66). -/
def Window.preCheck (w : Window) (j q : Nat) : PreCheck :=
  match w.high with
  | none => .acceptable
  | some h =>
    if h < q then (if j < q - h then .jump else .acceptable)
    else if 64 ≤ h - q then .stale
    else if q ∈ w.seen then .duplicate
    else .acceptable

/-- A position joins a falling list. -/
def insertFalling (q : Nat) : List Nat → List Nat
  | [] => [q]
  | x :: xs => if x < q then q :: x :: xs else x :: insertFalling q xs

/-- The window after the acceptance of sequence q (R68). -/
def Window.accept (w : Window) (q : Nat) : Window :=
  match w.high with
  | none => { high := some q, seen := [q] }
  | some h =>
    if h < q then { high := some q, seen := q :: w.seen.filter (fun x => decide (q - x < 64)) }
    else { high := some h, seen := insertFalling q w.seen }

/-- Every position from h-63 to h, positions below 0 left out (R77). -/
def fullSeen (h : Nat) : List Nat := (List.range (min 64 (h + 1))).map (fun i => h - i)

/-- The window re-anchored by a MARK with next-sequence field m (R77 step 2). -/
def Window.anchor (w : Window) (m : Nat) : Window :=
  if m = 0 then w
  else
    match w.high with
    | none => { high := some (m - 1), seen := fullSeen (m - 1) }
    | some h => if h < m - 1 then { high := some (m - 1), seen := fullSeen (m - 1) } else w

/-! ## Loss of sync and the resync exchange (R72 to R76) -/

/-- The record that loses sync, with the fresh challenge (R73 steps 1, 3, 4 and 5). -/
def Channel.loseSync (r : Channel) (challenge : BitVec 64) (retries : Nat) : Channel :=
  { r.queueCell (.resync challenge) with
    sync := .hunt
    syncLoss := 0
    challenge := some challenge
    resyncRetries := retries
    resyncTimer := none }

/-- An ACTIVE channel whose sync-loss count has reached the threshold loses sync (R62, R72, R73). Within a raise this is
R72's rule. That LOSS_OF_SYNC sent alone does it with no raise, also on a count that a lowered threshold has left at or
above it, is the model's choice (log entry 5): R72 has such a count act at the next raise. -/
def State.judgeSyncLoss (s : State) (c : Fin 48) : State :=
  if decide ((s.chan c).state = .active) && (s.chan c).sync.placing && decide (s.receive.threshold ≤ (s.chan c).syncLoss) then
    ((s.raiseFor .syncLost c (s.chan c).currentEpoch).modChan c
      (fun r => r.loseSync s.nextNonce s.renewalParams.retryLimit)).afterDraw
  else s

/-- The sync-loss count is raised in SYNC and SUSPENDED (R72). -/
def State.raiseSyncLoss (s : State) (c : Fin 48) : State :=
  if (s.chan c).sync.placing then
    (s.modChan c (fun r => { r with syncLoss := min 15 (r.syncLoss + 1) })).judgeSyncLoss c
  else s

/-- RESYNC is queued again with the same challenge (R76). -/
def Channel.requeueResync (r : Channel) : Channel :=
  let q := match r.challenge with
    | some x => r.queueCell (.resync x)
    | none => r
  { q with resyncRetries := r.resyncRetries - 1, resyncTimer := none }

/-- A resync timer that stands at 0 expires (R76). -/
def State.resyncExpired (s : State) (c : Fin 48) : State :=
  if (s.chan c).resyncTimer = some 0 then
    if 0 < (s.chan c).resyncRetries then s.modChan c Channel.requeueResync
    else
      ((s.modChan c Channel.endExchange).raiseFor .resyncFail c s.renewalParams.retryLimit).trigger c .resync
  else s

/-! ## Acceptance (R62 to R69, R83) -/

/-- A failure that counts E and raises the sync-loss count (R63, R65). -/
def State.rejectE (s : State) (c : Fin 48) : State := (s.modChan c Channel.countE).raiseSyncLoss c

/-- A header error of channel c (R43, R62, R63). -/
def State.headerError (s : State) (c : Fin 48) : State :=
  match (s.chan c).state with
  | .closed => s
  | .active => s.rejectE c
  | .opening => s.modChan c Channel.countE
  | .keying => s.modChan c Channel.countE
  | .closing => s.modChan c Channel.countE

/-- Which entry an epoch tag selects: the key, its window, and whether it is the current one (R65, R133). -/
structure Selection where
  key : KeyEntry
  window : Window
  isCurrent : Bool
  deriving DecidableEq, Repr

/-- The current entry by its epoch tag, else the previous one (R65, R133). -/
def Channel.select (r : Channel) (tag : BitVec 2) : Option Selection :=
  match r.current.filter (fun e => decide (epochTag e.key.epoch = tag)) with
  | some e => some { key := e.key, window := e.window, isCurrent := true }
  | none =>
    (r.previous.filter (fun e => decide (epochTag e.key.epoch = tag))).map
      (fun e => { key := e.key, window := e.window, isCurrent := false })

/-- The window of the selected entry is replaced. -/
def Channel.setWindow (r : Channel) (isCurrent : Bool) (w : Window) : Channel :=
  if isCurrent then { r with current := r.current.map (fun e => { e with window := w }) }
  else { r with previous := r.previous.map (fun e => { e with window := w }) }

/-- The record after an acceptance: window, G, silence timer, sync-loss count (R68). -/
def Channel.accepted (r : Channel) (sel : Selection) (sequence : Nat) : Channel :=
  { (r.setWindow sel.isCurrent (sel.window.accept sequence)).countG with syncLoss := 0 }

/-- Delivery of an accepted DATA cell to the serving port's inbound queue (R83). -/
def State.deliver (s : State) (c : Fin 48) (cell : Delivered) : State :=
  match (s.chan c).serving with
  | none => s
  | some q =>
    if (s.inbound q).length < Config.inboundDepth then s.setInbound q (s.inbound q ++ [cell])
    else (s.modChan c Channel.countD).raise .inboundOverrun (some c) (some q.port) cell.sequence

/-- The delivered form of an accepted cell (R82). -/
def deliveredCell (c : Fin 48) (sel : Selection) (cell : Cell) : Delivered :=
  { channel := c
    epoch := sel.key.epoch
    sequence := (headerSequence cell.header).toNat
    data := dataOf (headerLength cell.header).toNat (decipher sel.key c cell) }

/-- The disposal of an accepted cell by its kind and the sync state (R69). -/
def State.dispose (s : State) (c : Fin 48) (kind : CellKind) (cell : Delivered) : State :=
  if kind = .data then
    if (s.chan c).sync = .suspended then s.modChan c Channel.countWithheld else s.deliver c cell
  else s

/-- The tag check of an acceptable cell and what follows it (R67, R68). A failure raises the sync-loss count before the
T is counted and judged for a storm, and SYNC_LOST and TAG_STORM are then faults of one event (R146, R156). -/
def State.checkTraffic (s : State) (c : Fin 48) (kind : CellKind) (sel : Selection) (cell : Cell) : State :=
  if tagValid sel.key.keys.kTag cell then
    (s.modChan c (·.accepted sel (headerSequence cell.header).toNat)).dispose c kind (deliveredCell c sel cell)
  else s.asOneEvent (·.raiseSyncLoss c) (·.countT c)

/-- Acceptance of a DATA or PAD cell with a sound, matching header in SYNC or SUSPENDED (R65 to R68). -/
def State.acceptSound (s : State) (c : Fin 48) (kind : CellKind) (cell : Cell) : State :=
  match (s.chan c).select (headerEpochTag cell.header) with
  | none => s.rejectE c
  | some sel =>
    match sel.window.preCheck s.receive.jump (headerSequence cell.header).toNat with
    | .jump => (s.modChan c Channel.countJ).raiseSyncLoss c
    | .stale => s.modChan c Channel.countR
    | .duplicate => s.modChan c Channel.countR
    | .acceptable => s.checkTraffic c kind sel cell

/-- The slot match of R63: the header's channel id is the slot's channel. -/
def slotMatch (h : BitVec 64) (c : Fin 48) : Bool := decide ((headerChannel h).toNat = c.val)

/-- Acceptance of a DATA or PAD cell for channel c (R62 to R69). -/
def State.acceptTraffic (s : State) (c : Fin 48) (kind : CellKind) (cell : Cell) : State :=
  if (s.chan c).state ≠ .active then s.headerError c
  else if !(headerSound kind cell.header && slotMatch cell.header c) then s.headerError c
  else if !(s.chan c).sync.placing then s.modChan c Channel.countWithheld
  else s.acceptSound c kind cell

/-- An IDLE arrival for channel c (R62). -/
def State.idleArrival (s : State) (c : Fin 48) : State :=
  if (s.chan c).state = .active then s.modChan c Channel.countIdle else s

/-- A gap for channel c (R44). -/
def State.gap (s : State) (c : Fin 48) : State :=
  if (s.chan c).state = .active then s.modChan c Channel.countX else s

/-- The arrival of a served slot kept as DATA with channel c (R43, R44). -/
def State.dataArrival (s : State) (c : Fin 48) (arrival : Option Cell) : State :=
  match arrival with
  | none => s.gap c
  | some cell =>
    match cellKindOf cell with
    | some .idle => s.idleArrival c
    | some .data => s.acceptTraffic c .data cell
    | some .pad => s.acceptTraffic c .pad cell
    | _ => s.headerError c

/-! ## Control cells of the acceptance unit (R77, R81) -/

/-- A MARK answers the live challenge under the current epoch (R77 step 1). -/
def Channel.answers (r : Channel) (sel : Selection) (challenge : BitVec 64) (epoch : BitVec 8) : Bool :=
  decide (r.state = .active) && decide (r.challenge = some challenge) && sel.isCurrent && decide (sel.key.epoch = epoch)

/-- The record after an answering MARK (R77 steps 2 to 4). -/
def Channel.anchored (r : Channel) (sel : Selection) (next : Nat) : Channel :=
  { (r.setWindow true (sel.window.anchor next)).endExchange with sync := .suspended, syncLoss := 0 }

/-- A valid MARK is judged (R77). -/
def State.judgeMark (s : State) (c : Fin 48) (sel : Selection) (cell : Cell) : State :=
  if (s.chan c).answers sel (challengeField (cellPayload cell)) (markEpoch (cellPayload cell)) then
    s.modChan c (·.anchored sel (markNext (cellPayload cell)).toNat)
  else s.countStray

/-- A valid RESYNC from the shop is answered with a MARK (R81). -/
def State.judgeResync (s : State) (c : Fin 48) (cell : Cell) : State :=
  if (s.chan c).state = .active then s.modChan c (·.queueCell (.mark (challengeField (cellPayload cell))))
  else s.countStray

/-! ## RESUME (R80), TAKE (R84), SET_SYNC (R86) -/

/-- RESUME's own check (R80). -/
def refusedResume (r : Channel) : Option Completion := if r.sync = .suspended then none else some .state

/-- RESUME's effect (R80). -/
def resumeEffect (c : Fin 48) (s : State) : Answer :=
  { completion := .done, results := [], state := s.modChan c (fun r => { r with sync := .sync }) }

/-- RESUME is taken (R80). -/
def execResume (p : Port) (tag channel : Byte) (s : State) : Host.Outcome State Fault Refusal :=
  .next (s.taking p tag 0x21 [channel] (channelCommand p channel refusedResume resumeEffect))

/-- TAKE's results (R84). -/
def Delivered.bytes (x : Delivered) (left : Nat) : List Byte :=
  u8 x.channel.val ++ u8 x.epoch.toNat ++ u24 x.sequence ++ u8 x.data.length ++ x.data ++ u8 left

/-- TAKE on the calling port's queue (R84). -/
def takeBody (q : Service) (s : State) : Answer :=
  match s.inbound q with
  | [] => refuse .empty s
  | x :: rest => { completion := .done, results := x.bytes rest.length, state := s.setInbound q rest }

/-- TAKE is taken (R84). -/
def execTake (p : Port) (tag : Byte) (s : State) : Host.Outcome State Fault Refusal :=
  .next (s.taking p tag 0x20 [] (fromService p takeBody))

/-- SET_SYNC's clamps and effect (R86). -/
def setSyncBody (given : ReceiveParams) (s : State) : Answer :=
  { completion := clampedAnswer given (clampReceive given)
    results := u16 (clampReceive given).jump ++ u8 (clampReceive given).threshold
    state := { s with receive := clampReceive given } }

/-- SET_SYNC is taken (R86). -/
def execSetSync (p : Port) (tag : Byte) (jump : BitVec 16) (threshold : Byte) (s : State) :
    Host.Outcome State Fault Refusal :=
  .next (s.taking p tag 0x22 (bigEndian 2 jump.toNat ++ [threshold])
    (fromService p (fun _ => setSyncBody { jump := jump.toNat, threshold := threshold.toNat })))

end Sys2Proof.Machine
end

