-- ==== Sys2Proof/Machine/Control.lean ====
section
/-! DEFINITION. Control slots (chapter 7): the control arbiter, forming and sending a control cell, and the dispatch of
inward control cells. -/

namespace Sys2Proof.Machine

/-! ## The control arbiter (R127, R128) -/

/-- The channel ids in the arbiter's scan order (R127). -/
def scanOrder (last : Fin 48) : List (Fin 48) :=
  (List.finRange 48).filter (fun c => decide (last < c)) ++ (List.finRange 48).filter (fun c => decide (c ≤ last))

/-- The channel the arbiter chooses (R127). -/
def State.chosenChannel (s : State) : Option (Fin 48) :=
  (scanOrder s.lastChannel).find? (fun c => !(s.chan c).pendingCells.isEmpty)

/-- The entry that tags an OFFER: the current entry, or the base entry while KEYING (R57). -/
def Channel.offerKey (r : Channel) : Option KeyEntry :=
  if r.state = .keying then r.base else r.current.map (·.key)

/-- An outward control cell formed whole from its pending entry and the record (R57, R58, R59); none where the record
holds no tagging entry. -/
def Channel.formControl (r : Channel) (c : Fin 48) (x : ControlCell) : Option Cell :=
  match x with
  | .offer epoch nonce =>
    match r.offerKey, r.shop with
    | some key, some shop => some (controlCell .offer key c (offerPayload epoch nonce shop))
    | _, _ => none
  | .switch epoch =>
    match r.pendingEntry with
    | some { epoch := e, nonce := _, keys := some keys } =>
      some (controlCell .switch { epoch := e, keys := keys } c (switchPayload epoch))
    | _ => none
  | .resync challenge => r.current.map (fun e => controlCell .resync e.key c (resyncPayload challenge))
  | .mark challenge =>
    r.current.map
      (fun e => controlCell .mark e.key c (markPayload challenge e.key.epoch (BitVec.ofNat 24 e.nextTx)))

/-- The effect of sending a control cell on its record, the entry having left the list (R75, R106, R112, R113, R128). -/
def Channel.sent (r : Channel) (x : ControlCell) (p : RenewalParams) : Channel :=
  match x with
  | .offer _ _ => { r with offerTimer := some p.tOffer }
  | .switch _ => r.switchSent p.cutover
  | .resync _ => { r with resyncTimer := some p.tOffer }
  | .mark _ => r

/-- Channel c sends the oldest entry x of its list as `cell` (R127, R128). -/
def State.sendControl (s : State) (c : Fin 48) (x : ControlCell) (cell : Cell) : State :=
  { s.modChan c (fun r => { r with pendingCells := r.pendingCells.tail }.sent x s.renewalParams) with
    lastChannel := c
    lineOut := some cell }

/-- The load event of a served CONTROL slot (R127); none where the chosen cell has no tagging entry. -/
def State.loadControl (s : State) : Option State :=
  match s.chosenChannel with
  | none => some { s with lineOut := some idleCell }
  | some c =>
    match (s.chan c).pendingCells with
    | [] => some { s with lineOut := some idleCell }
    | x :: _ => ((s.chan c).formControl c x).map (s.sendControl c x)

/-! ## Dispatch (R130 to R135) -/

/-- The entry an ACCEPT of a shop nonce derives for the pending entry p (R110); none only on a record that R88
excludes. -/
def State.acceptKeys (s : State) (c : Fin 48) (p : PendingEntry) (shopNonce : BitVec 64) : Option KeyPair :=
  match s.masterKey (s.chan c), (s.chan c).shop with
  | some m, some shop => some (deriveEntry m c p.epoch shop p.nonce shopNonce).keys
  | _, _ => none

/-- An ACCEPT that reaches verification (R110). -/
def State.verifyAccept (s : State) (c : Fin 48) (p : PendingEntry) (cell : Cell) : State :=
  match s.acceptKeys c p (acceptShopNonce (cellPayload cell)) with
  | none => s.countT c
  | some keys =>
    if tagValid keys.kTag cell then s.modChan c (fun r => (r.agree p keys).countG) else s.countT c

/-- An ACCEPT matches the pending entry: epoch tag, epoch and part nonce, and a shop nonce that is not all zero (R109).
These fields are read before the tag check, as R109 and R132 have it and against R58's words that an ACCEPT's fields are
read only after its tag is valid: the model's choice (log entry 24). -/
def acceptMatches (p : PendingEntry) (cell : Cell) : Bool :=
  decide (headerEpochTag cell.header = epochTag p.epoch) && decide (acceptEpoch (cellPayload cell) = p.epoch) &&
    decide (acceptPartNonce (cellPayload cell) = p.nonce) && decide (acceptShopNonce (cellPayload cell) ≠ 0)

/-- The judgement of a sound ACCEPT, before its tag is checked (R109, R132; against R58, log entry 24). -/
def State.judgeAccept (s : State) (c : Fin 48) (cell : Cell) : State :=
  if !(s.chan c).triggerable then s.countStray
  else
    match (s.chan c).renewal with
    | .idle => s.countStray
    | .agreed => s
    | .cutover => s
    | .offered =>
      match (s.chan c).pendingEntry with
      | none => s.countStray
      | some p => if acceptMatches p cell then s.verifyAccept c p cell else s.countStray

/-- A valid REQUEST, RESYNC or MARK goes to its handler (R135). -/
def State.handleControl (s : State) (c : Fin 48) (kind : CellKind) (sel : Selection) (cell : Cell) : State :=
  match kind with
  | .request => s.judgeRequest c
  | .resync => s.judgeResync c cell
  | .mark => s.judgeMark c sel cell
  | _ => s

/-- A sound REQUEST, RESYNC or MARK (R133, R134). -/
def State.judgeControl (s : State) (c : Fin 48) (kind : CellKind) (cell : Cell) : State :=
  if (s.chan c).state ≠ .active then s.countStray
  else
    match (s.chan c).select (headerEpochTag cell.header) with
    | none => s.modChan c Channel.countE
    | some sel =>
      if tagValid sel.key.keys.kTag cell then (s.modChan c Channel.countG).handleControl c kind sel cell
      else s.countT c

/-- The kinds the shop forms for CONTROL slots (R131). -/
def CellKind.shopForms : CellKind → Bool
  | .accept => true
  | .request => true
  | .resync => true
  | .mark => true
  | .idle => false
  | .data => false
  | .pad => false
  | .offer => false
  | .switch => false

/-- The rest of the header checks of a control cell (R131). -/
def controlSound (kind : CellKind) (h : BitVec 64) : Bool :=
  kind.shopForms && sequencePasses kind h && lengthPasses kind h

/-- A control cell that names channel c, which is not CLOSED (R131 to R133). -/
def State.routeControl (s : State) (c : Fin 48) (kind : CellKind) (cell : Cell) : State :=
  if !controlSound kind cell.header then s.modChan c Channel.countE
  else if kind = .accept then s.judgeAccept c cell
  else s.judgeControl c kind cell

/-- The channel that a header's channel id field names, if it is 0 to 47. -/
def headerChannelOf (h : BitVec 64) : Option (Fin 48) :=
  if hlt : (headerChannel h).toNat < 48 then some ⟨(headerChannel h).toNat, hlt⟩ else none

/-- Dispatch of an inward control cell (R130). -/
def State.dispatch (s : State) (kind : CellKind) (cell : Cell) : State :=
  if !(checkPasses cell.header && zeroPasses cell.header) then s.countStray
  else
    match headerChannelOf cell.header with
    | none => s.countStray
    | some c => if (s.chan c).state = .closed then s.countStray else s.routeControl c kind cell

/-- The arrival of a served slot kept as CONTROL (R45). -/
def State.controlArrival (s : State) (arrival : Option Cell) : State :=
  match arrival with
  | none => s
  | some cell =>
    match cellKindOf cell with
    | none => s.countStray
    | some .idle => s
    | some .data => s.countStray
    | some .pad => s.countStray
    | some kind => s.dispatch kind cell

end Sys2Proof.Machine
end

