-- ==== Sys2Proof/Machine/Timebase.lean ====
section
/-! DEFINITION. The timebase (chapter 2): what a tick does to every timer of the part, the works a tick brings, the trunk
states, the local beat and the frame marker. -/

namespace Sys2Proof.Machine

/-- The two kinds of tick (R27). -/
inductive TickKind where
  | marker
  | beat
  deriving DecidableEq, Repr

/-! ## Timers at a tick (R28) -/

/-- A running countdown loses one (R75, R106). -/
def countDown (t : Option Nat) : Option Nat := t.map (· - 1)

/-- The timers of a record that count every tick: key age and hold-off (R6, R104). -/
def Channel.everyTick (r : Channel) : Channel :=
  { r with
    current := r.current.map (fun e => { e with age := min 4294967295 (e.age + 1) })
    holdOff := r.holdOff - 1 }

/-- The timers of a record that count marker ticks only: offer, resync, cutover and silence (R75, R106, R115, R147). -/
def Channel.markerTick (r : Channel) : Channel :=
  { r with
    offerTimer := countDown r.offerTimer
    resyncTimer := countDown r.resyncTimer
    previous := r.previous.map (fun e => { e with cutover := e.cutover - 1 })
    quality :=
      { r.quality with silence := if r.quality.silenceRunning then bump r.quality.silence else r.quality.silence } }

/-- A record's timers at a tick (R28). -/
def Channel.tick (kind : TickKind) (r : Channel) : Channel :=
  match kind with
  | .marker => r.everyTick.markerTick
  | .beat => r.everyTick

/-- The presence timer of a PRESENT port advances (R173). -/
def PortLink.tick (l : PortLink) : PortLink := if l.present then { l with timer := bump l.timer } else l

/-- A pending slot map value takes effect (R41). -/
def MapEntry.apply (e : MapEntry) : MapEntry :=
  match e.pending with
  | some k => { inForce := k, pending := none }
  | none => e

/-- Pending slot map values and frame parameters take effect (R41). -/
def Sequencer.applyPending (q : Sequencer) : Sequencer :=
  { q with map := mapTable MapEntry.apply q.map, frame := q.pendingFrame.getD q.frame, pendingFrame := none }

/-- The period ends at this tick: the period timer, after advancing, is at or above P (R140). -/
def State.periodDue (s : State) : Bool := decide (s.qualityParams.period ≤ bump s.periodTimer)

/-- The period timer after a tick (R140). -/
def State.periodAfter (s : State) : Nat := if s.periodDue then 0 else bump s.periodTimer

/-- Every count of the part advances at a tick (R27, R28, R41, R140, R173). -/
def State.advance (s : State) (kind : TickKind) : State :=
  { s.mapChans (Channel.tick kind) with
    timebase := { s.timebase with tick := s.timebase.tick + 1 }
    sequencer := s.sequencer.applyPending
    portA := s.portA.tick
    portB := s.portB.tick
    portK := s.portK.tick
    periodTimer := s.periodAfter }

/-! ## The works of a tick -/

/-- The presence timer of a PRESENT port stands at or above the presence period (R173). -/
def State.presenceDue (s : State) (p : Port) : Bool :=
  (s.link p).present && decide (s.presencePeriod ≤ (s.link p).timer)

/-- The expiry of a port's presence timer: ABSENT, then PORT_ABSENT (R163, R173). -/
def State.presenceExpired (s : State) (p : Port) : State :=
  if s.presenceDue p then
    (s.setLink p { s.link p with present := false, timer := 0 }).raise .portAbsent none (some p) s.presencePeriod
  else s

/-- One piece of a tick's work is carried out, if its condition still holds. -/
def State.work (s : State) : TickWork → State
  | .keyingEntry c => s.keyingEntry c
  | .closingEnd c => s.closingEnd c
  | .ageTrigger c => s.judgeAge c
  | .holdOffEnd c => s.startIfDue c
  | .offerExpiry c => s.offerExpired c
  | .resyncExpiry c => s.resyncExpired c
  | .cutoverExpiry c => s.cutoverExpired c
  | .silence c => s.judgeSilence c
  | .score c => s.scoreChannel c
  | .presence p => s.presenceExpired p

/-- The works that any tick brings to channel c (R11, R14, R102, R104). -/
def State.channelWorks (s : State) (c : Fin 48) : List TickWork :=
  (if (s.chan c).state = .opening then [.keyingEntry c] else []) ++
    (if (s.chan c).state = .closing then [.closingEnd c] else []) ++
    (if (s.chan c).ageReached then [.ageTrigger c] else []) ++
    (if (s.chan c).startDue then [.holdOffEnd c] else [])

/-- The cutover timer of channel c stands at 0 (R115). -/
def Channel.cutoverDue (r : Channel) : Bool :=
  match r.previous with
  | some e => decide (e.cutover = 0)
  | none => false

/-- The works that a marker tick brings to channel c besides (R76, R107, R115, R148). -/
def State.markerWorks (s : State) (c : Fin 48) : List TickWork :=
  (if (s.chan c).offerTimer = some 0 then [.offerExpiry c] else []) ++
    (if (s.chan c).resyncTimer = some 0 then [.resyncExpiry c] else []) ++
    (if (s.chan c).cutoverDue then [.cutoverExpiry c] else []) ++
    (if (s.chan c).quality.silent s.qualityParams.silenceLimit then [.silence c] else [])

/-- The works of a period end (R141). -/
def State.scoreWorks (s : State) : List TickWork :=
  ((List.finRange 48).filter (fun c => decide ((s.chan c).state ≠ .closed))).map .score

/-- The works of presence expiry (R173). -/
def State.presenceWorks (s : State) : List TickWork := ([.a, .b, .k].filter (fun p => s.presenceDue p)).map .presence

/-- The works a tick brings, on the state whose counts have advanced; `period` says whether the period ends. -/
def State.works (s : State) (kind : TickKind) (period : Bool) : List TickWork :=
  (List.finRange 48).flatMap (fun c => s.channelWorks c) ++
    (match kind with
     | .marker => (List.finRange 48).flatMap (fun c => s.markerWorks c)
     | .beat => []) ++
    (if period then s.scoreWorks else []) ++ s.presenceWorks

/-- The due works with those that `first` names taken first, each once (log entry 6). -/
def inOrder : (first due : List TickWork) → List TickWork
  | [], due => due
  | w :: ws, due => if w ∈ due then w :: inOrder ws (due.erase w) else inOrder ws due

/-- The works of a list are carried out one after the other. -/
def State.carryOut (s : State) (works : List TickWork) : State := works.foldl State.work s

/-- A tick (R27, R28): every count advances, and then the works it brings are carried out, those that `order` names
first (log entries 6 and 7). -/
def State.tick (s : State) (kind : TickKind) (order : List TickWork) : State :=
  (s.advance kind).carryOut (inOrder order ((s.advance kind).works kind s.periodDue))

/-! ## Trunk states (R31 to R34) -/

/-- Beats since marker have reached the loss beats in ACQUIRING or LOCKED (R34). -/
def State.lossDue (s : State) : Bool :=
  decide (s.timebase.trunk ≠ .lost) && decide (s.sequencer.frame.loss ≤ s.timebase.beats)

/-- The trunk becomes LOST: acquire count 0 and no slot served, so a load event still to be taken is not raised (R34,
R35). -/
def State.loseTrunk (s : State) : State :=
  { s with
    timebase := { s.timebase with trunk := .lost, acquire := 0 }
    sequencer := { s.sequencer with kept := none, loadDue := false } }

/-- R34 step 2: the trunk becomes LOST when its condition holds, with TRUNK_LOST when it was LOCKED. -/
def State.judgeLoss (s : State) : State :=
  if s.lossDue then
    if s.timebase.trunk = .locked then s.loseTrunk.raise .trunkLost none none s.sequencer.frame.loss else s.loseTrunk
  else s

/-- A beat tick when the trunk is not LOCKED, no tick otherwise (R27, R34 step 3). -/
def State.beatTick (s : State) (order : List TickWork) : State :=
  if s.timebase.trunk = .locked then s else s.tick .beat order

/-- A wrap of the phase timer (R26, R34). -/
def State.wrap (s : State) (order : List TickWork) : State :=
  ({ s with timebase := { s.timebase with phase := 0, beats := min 15 (s.timebase.beats + 1) } }.judgeLoss).beatTick order

/-- A phase unit passes (R26). -/
def State.phaseUnit (s : State) (order : List TickWork) : State :=
  if s.timebase.phase + 1 < s.sequencer.frame.beatLen then
    { s with timebase := { s.timebase with phase := s.timebase.phase + 1 } }
  else s.wrap order

/-! ## The frame marker (R30 to R33) -/

/-- The deviation of a marker caught at phase p (R30). -/
def deviationOf (beatLen p : Nat) : Nat := min p (beatLen - p)

/-- The length of the frame a marker ends (R30, R36). -/
def State.frameLength (s : State) : Nat := s.sequencer.slot + 1

/-- The marker ends a frame of F slots within the slip limit (R32). -/
def State.frameAgrees (s : State) (deviation : Nat) : Bool :=
  decide (s.frameLength = s.sequencer.frame.slots) && decide (deviation ≤ s.sequencer.frame.slip)

/-- Step 3 of a marker while LOCKED: TRUNK_FRAMING, then TRUNK_SLIP, each on its own condition, two faults of one event
(R33, R156). -/
def State.judgeLockedMarker (s : State) (deviation : Nat) : State :=
  let s1 :=
    if s.frameLength = s.sequencer.frame.slots then s
    else s.raise .trunkFraming none none (min 65535 s.frameLength)
  if s.sequencer.frame.slip < deviation then (s1.inEvent s.log.event).raise .trunkSlip none none deviation else s1

/-- Step 3 of a marker: the trunk state acts on it (R31 to R33). -/
def State.judgeMarker (s : State) (deviation : Nat) : State :=
  match s.timebase.trunk with
  | .lost => { s with timebase := { s.timebase with trunk := .acquiring, acquire := 1 } }
  | .acquiring =>
    if s.frameAgrees deviation then
      { s with timebase := { s.timebase with trunk := .locked, acquire := 2 } }.raise .trunkLocked none none
        s.sequencer.frame.slots
    else { s with timebase := { s.timebase with acquire := 1 } }
  | .locked => s.judgeLockedMarker deviation

/-- Steps 1 and 4 of a marker: the deviation kept, phase, beats and slot number at 0 (R30). -/
def State.restartFrame (s : State) (deviation : Nat) : State :=
  { s with
    timebase := { s.timebase with deviation := deviation, phase := 0, beats := 0 }
    sequencer := { s.sequencer with slot := 0 } }

/-- The kind of tick a marker makes: a marker tick when the trunk is LOCKED after it (R27, R30 step 5). -/
def State.markerKind (s : State) : TickKind := if s.timebase.trunk = .locked then .marker else .beat

/-- The five steps of a marker (R30). -/
def State.marker (s : State) (order : List TickWork) : State :=
  let deviation := deviationOf s.sequencer.frame.beatLen s.timebase.phase
  let s1 := (s.judgeMarker deviation).restartFrame deviation
  s1.tick s1.markerKind order

end Sys2Proof.Machine
end

