-- ==== Sys2Proof/Machine/Events.lean ====
section
/-! DEFINITION. The events of the part's own that have rows of their own in spec/opcode_table.json. Each is carried out
inside the event that brings it (a tick, a load event, an arrival); alone, it is the piece of work itself, taken on the
record as it stands, and it does not happen where the condition that its rule puts on the record does not hold (log
entry 5). For a timer, the piece of work is its last count and its expiry. -/

namespace Sys2Proof.Machine

/-- TRUNK_LOSS (R34 step 2). -/
def execTrunkLoss (s : State) : Host.Outcome State Fault Refusal := .next (s.whileRunning State.judgeLoss)

/-- HARD_LIMIT (R21). -/
def execHardLimit (c : Fin 48) (s : State) : Host.Outcome State Fault Refusal :=
  .next (s.whileRunning (fun s => s.judgeHardLimit c))

/-- PRESET_TRIGGER (R22). -/
def execPresetTrigger (c : Fin 48) (s : State) : Host.Outcome State Fault Refusal :=
  .next (s.whileRunning (fun s => s.judgePreset c))

/-- LOSS_OF_SYNC (R73). -/
def execLossOfSync (c : Fin 48) (s : State) : Host.Outcome State Fault Refusal :=
  .next (s.whileRunning (fun s => s.judgeSyncLoss c))

/-- TAG_STORM (R145, R146). -/
def execTagStorm (c : Fin 48) (s : State) : Host.Outcome State Fault Refusal :=
  .next (s.whileRunning (fun s => s.judgeStorm c))

/-- KEYING_ENTRY (R11, R116). -/
def execKeyingEntry (c : Fin 48) (s : State) : Host.Outcome State Fault Refusal :=
  .next (s.whileRunning (fun s => s.keyingEntry c))

/-- CLOSING_END (R14). -/
def execClosingEnd (c : Fin 48) (s : State) : Host.Outcome State Fault Refusal :=
  .next (s.whileRunning (fun s => s.closingEnd c))

/-- AGE_TRIGGER (R102). -/
def execAgeTrigger (c : Fin 48) (s : State) : Host.Outcome State Fault Refusal :=
  .next (s.whileRunning (fun s => s.judgeAge c))

/-- The last count of a hold-off, and a start from a set flag (R104). -/
def State.holdOffEnd (s : State) (c : Fin 48) : State :=
  if (s.chan c).holdOff ≤ 1 then (s.modChan c (fun r => { r with holdOff := 0 })).startIfDue c else s

/-- HOLD_OFF_END (R104). -/
def execHoldOffEnd (c : Fin 48) (s : State) : Host.Outcome State Fault Refusal :=
  .next (s.whileRunning (fun s => s.holdOffEnd c))

/-- A running countdown is at its last count, or has passed it. -/
def lastCount (t : Option Nat) : Bool :=
  match t with
  | some n => decide (n ≤ 1)
  | none => false

/-- The last count of the offer timer, while LOCKED, and its expiry (R106, R107). -/
def State.offerTimerExpiry (s : State) (c : Fin 48) : State :=
  if s.timebase.trunk = .locked ∧ lastCount (s.chan c).offerTimer then
    (s.modChan c (fun r => { r with offerTimer := some 0 })).offerExpired c
  else s

/-- OFFER_TIMER_EXPIRY (R107). -/
def execOfferTimerExpiry (c : Fin 48) (s : State) : Host.Outcome State Fault Refusal :=
  .next (s.whileRunning (fun s => s.offerTimerExpiry c))

/-- The last count of the resync timer, while LOCKED, and its expiry (R75, R76). -/
def State.resyncTimerExpiry (s : State) (c : Fin 48) : State :=
  if s.timebase.trunk = .locked ∧ lastCount (s.chan c).resyncTimer then
    (s.modChan c (fun r => { r with resyncTimer := some 0 })).resyncExpired c
  else s

/-- RESYNC_TIMER_EXPIRY (R76). -/
def execResyncTimerExpiry (c : Fin 48) (s : State) : Host.Outcome State Fault Refusal :=
  .next (s.whileRunning (fun s => s.resyncTimerExpiry c))

/-- The last count of the cutover timer, while LOCKED, and its expiry (R115). -/
def State.cutoverTimerExpiry (s : State) (c : Fin 48) : State :=
  if s.timebase.trunk = .locked ∧ lastCount ((s.chan c).previous.map (·.cutover)) then
    (s.modChan c Channel.endCutover).startIfDue c
  else s

/-- CUTOVER_TIMER_EXPIRY (R115). -/
def execCutoverTimerExpiry (c : Fin 48) (s : State) : Host.Outcome State Fault Refusal :=
  .next (s.whileRunning (fun s => s.cutoverTimerExpiry c))

/-- The count that brings a running silence timer to the limit, while LOCKED, and the closure (R147, R148). -/
def State.silenceLimit (s : State) (c : Fin 48) : State :=
  let t := s.modChan c (fun r => { r with quality := { r.quality with silence := bump r.quality.silence } })
  if s.timebase.trunk = .locked ∧ (t.chan c).quality.silent s.qualityParams.silenceLimit then t.judgeSilence c else s

/-- SILENCE_LIMIT (R148). -/
def execSilenceLimit (c : Fin 48) (s : State) : Host.Outcome State Fault Refusal :=
  .next (s.whileRunning (fun s => s.silenceLimit c))

/-- The count that ends the period, and the period end of every channel (R140, R141). -/
def State.periodEnd (s : State) (order : List TickWork) : State :=
  if s.periodDue then { s with periodTimer := 0 }.carryOut (inOrder order s.scoreWorks) else s

/-- PERIOD_END (R141). -/
def execPeriodEnd (order : List TickWork) (s : State) : Host.Outcome State Fault Refusal :=
  .next (s.whileRunning (fun s => s.periodEnd order))

/-- The last count of a presence timer and its expiry (R173). -/
def State.presenceExpiry (s : State) (p : Port) : State :=
  let t := s.setLink p (s.link p).tick
  if t.presenceDue p then t.presenceExpired p else s

/-- PRESENCE_EXPIRY (R173). -/
def execPresenceExpiry (p : Port) (s : State) : Host.Outcome State Fault Refusal :=
  .next (s.whileRunning (fun s => s.presenceExpiry p))

end Sys2Proof.Machine
end

