-- ==== Sys2Proof/Machine/Masters.lean ====
section
/-! DEFINITION. The master key store (chapter 5): LOAD_MASTER and ERASE_MASTER. -/

namespace Sys2Proof.Machine

/-- A master slot's state as a result byte: EMPTY 0, LOADED 1 (R166, R179). -/
def MasterSlot.byte : MasterSlot → Byte
  | .empty => 0
  | .loaded _ _ => 1

/-- The check value of a slot, zero when EMPTY (R60). -/
def MasterSlot.check : MasterSlot → BitVec 24
  | .empty => 0
  | .loaded _ v => v

/-- Write a master key slot. -/
def State.setMaster (s : State) (m : Fin 4) (v : MasterSlot) : State := { s with masters := s.masters.set m v }

/-- LOAD_MASTER's checks and effect (R90, R91). -/
def loadMasterBody (slot : Byte) (key : Block) (s : State) : Answer :=
  match masterOf slot with
  | none => refuse .range s
  | some m =>
    if !s.masterEmpty m && decide (0 < s.bindingCount m) then refuse .inUse s
    else
      { completion := .done
        results := s.masters[m].byte :: u24 (checkValue key).toNat
        state := s.setMaster m (.loaded key (checkValue key)) }

/-- LOAD_MASTER is taken (R90, R91). -/
def execLoadMaster (p : Port) (tag slot : Byte) (key : Block) (s : State) : Host.Outcome State Fault Refusal :=
  .next (s.taking p tag 0x30 (slot :: bigEndian 16 key.toNat) (loadMasterBody slot key))

/-- Immediate closure of each channel of a list (R93 step 1). -/
def State.closeAll (s : State) (channels : List (Fin 48)) : State := channels.foldl State.closeNow s

/-- The effect of erasing a LOADED slot (R93, R94). -/
def State.eraseSlot (s : State) (m : Fin 4) : State :=
  (((s.closeAll (s.boundChannels m)).setMaster m .empty).raise .masterErased none (some .k)
    (m.val * 256 + s.bindingCount m))

/-- ERASE_MASTER's check and effect (R92, R93). -/
def eraseMasterBody (slot : Byte) (s : State) : Answer :=
  match masterOf slot with
  | none => refuse .range s
  | some m =>
    if s.masterEmpty m then { completion := .done, results := [0, 0], state := s }
    else { completion := .done, results := 1 :: u8 (s.bindingCount m), state := s.eraseSlot m }

/-- ERASE_MASTER is taken (R92, R93). -/
def execEraseMaster (p : Port) (tag slot : Byte) (s : State) : Host.Outcome State Fault Refusal :=
  .next (s.taking p tag 0x31 [slot] (eraseMasterBody slot))

end Sys2Proof.Machine
end

