-- ==== Sys2Proof/Machine/Ports.lean ====
section
/-! DEFINITION. Ports and commands (chapter 10) and READ_FAULT (R160): frame arrival, presence, adoption commands,
attention, status and the resets. -/

namespace Sys2Proof.Machine

/-! ## Frame arrival (R167, R173) -/

/-- A well-formed frame refreshes the presence of its port (R173). The detail of PORT_RETURNED is counted again as the log
takes it (R163, `FaultLog.asTaken`). -/
def State.refreshPresence (s : State) (p : Port) : State :=
  let s1 := s.setLink p { s.link p with present := true, timer := 0 }
  if (s.link p).present then s1 else s1.raise .portReturned none (some p) (s1.log.returnDetail (s1.link p).cursor)

/-- A malformed frame is counted, and answered FORMAT when it holds at least 2 bytes (R167). -/
def State.malformed (s : State) (p : Port) (bytes : List Byte) : State :=
  let s1 := s.setLink p { s.link p with framing := bump (s.link p).framing }
  match bytes with
  | code :: tag :: _ => s1.respond p tag code .format []
  | _ => s1

/-- A well-formed frame joins the queue, or is answered PORT_FULL when it holds 4 frames (R167). -/
def State.enqueueFrame (s : State) (p : Port) (bytes : List Byte) : State :=
  if (s.link p).queue.length < Config.commandDepth then
    s.setLink p { s.link p with queue := (s.link p).queue ++ [bytes] }
  else
    match bytes with
    | code :: tag :: _ => s.respond p tag code .portFull []
    | _ => s

/-- A frame arrives on a port link (R167). -/
def State.frameArrival (s : State) (p : Port) (bytes : List Byte) : State :=
  if frameWellFormed bytes then (s.refreshPresence p).enqueueFrame p bytes else s.malformed p bytes

/-- FRAME_ARRIVAL; bytes that arrive while the reset line is asserted are discarded (R164, R167). -/
def execFrameArrival (p : Port) (bytes : List Byte) (s : State) : Host.Outcome State Fault Refusal :=
  .next (s.whileRunning (fun s => s.frameArrival p bytes))

/-! ## READ_FAULT (R160) -/

/-- The port's cursor is set. -/
def State.setCursor (s : State) (p : Port) (cursor : BitVec 32) : State := s.setLink p { s.link p with cursor := cursor }

/-- READ_FAULT's results for a record read at a cursor, with the records left unread (R160). -/
def FaultRecord.bytes (r : FaultRecord) (cursor : BitVec 32) (left : Nat) : List Byte :=
  u32 r.number.toNat ++ [r.kind.byte] ++ optNum 1 (r.channel.map (·.val)) ++ optPort r.port ++ u32 r.stamp.toNat ++
    u16 r.detail.toNat ++ u16 r.repeats ++ u16 (min 65535 (r.number - cursor).toNat) ++ u8 left

/-- READ_FAULT on the calling port's cursor (R160). -/
def readFaultBody (p : Port) (s : State) : Answer :=
  match s.log.unreadFrom (s.link p).cursor with
  | [] => refuse .empty s
  | r :: _ =>
    { completion := .done
      results := r.bytes (s.link p).cursor (s.log.unreadFrom (r.number + 1)).length
      state := s.setCursor p (r.number + 1) }

/-- READ_FAULT is taken (R160). -/
def execReadFault (p : Port) (tag : Byte) (s : State) : Host.Outcome State Fault Refusal :=
  .next (s.taking p tag 0x60 [] (readFaultBody p))

/-! ## STATUS (R179) and CLEAR_STARTUP (R172) -/

/-- STATUS's report of a master slot: state and check value (R179). -/
def MasterSlot.bytes (m : MasterSlot) : List Byte := m.byte :: u24 m.check.toNat

/-- STATUS's 39 bytes (R179). R178 says that STATUS reports port K's mask bit 0 as well; R179's table holds no mask, and
the model follows it (DESIGN CHOICE, log entry 22). -/
def State.statusBytes (s : State) : List Byte :=
  [flagByte s.startup, s.timebase.trunk.byte] ++ u32 s.timebase.tick.toNat ++
    [flagByte s.portA.present, flagByte s.portB.present, flagByte s.portK.present] ++
    (s.masters[(0 : Fin 4)]).bytes ++ (s.masters[(1 : Fin 4)]).bytes ++ (s.masters[(2 : Fin 4)]).bytes ++
    (s.masters[(3 : Fin 4)]).bytes ++ u16 s.log.lost ++ u16 s.stray ++ u16 s.portA.framing ++ u16 s.portB.framing ++
    u16 s.portK.framing ++ u32 s.log.next.toNat

/-- STATUS changes nothing (R179). -/
def statusBody (s : State) : Answer := { completion := .done, results := s.statusBytes, state := s }

/-- STATUS is taken (R179). -/
def execStatus (p : Port) (tag : Byte) (s : State) : Host.Outcome State Fault Refusal :=
  .next (s.taking p tag 0x70 [] statusBody)

/-- CLEAR_STARTUP clears the startup condition (R172). -/
def clearStartupBody (s : State) : Answer := { completion := .done, results := [], state := { s with startup := false } }

/-- CLEAR_STARTUP is taken (R172). -/
def execClearStartup (p : Port) (tag : Byte) (s : State) : Host.Outcome State Fault Refusal :=
  .next (s.taking p tag 0x71 [] clearStartupBody)

/-! ## PRESENT (R175), SET_ATTENTION (R178), SET_PRESENCE (R174) -/

/-- PRESENT changes nothing when it is taken (R175). -/
def presentBody (s : State) : Answer := { completion := .done, results := [], state := s }

/-- PRESENT is taken (R175). -/
def execPresent (p : Port) (tag : Byte) (s : State) : Host.Outcome State Fault Refusal :=
  .next (s.taking p tag 0x72 [] presentBody)

/-- SET_ATTENTION's check and effect: bits 3 to 7 of the mask are clear (R178). -/
def setAttentionBody (p : Port) (mask : Byte) (s : State) : Answer :=
  if 8 ≤ mask.toNat then refuse .range s
  else
    { completion := .done, results := [mask], state := s.setLink p { s.link p with mask := mask } }

/-- SET_ATTENTION is taken (R178). -/
def execSetAttention (p : Port) (tag mask : Byte) (s : State) : Host.Outcome State Fault Refusal :=
  .next (s.taking p tag 0x73 [mask] (setAttentionBody p mask))

/-- R174's clamp of the presence period. -/
def clampPresence (n : Nat) : Nat := clamp 16 65535 n

/-- SET_PRESENCE's effect (R174). -/
def setPresenceBody (given : Nat) (s : State) : Answer :=
  { completion := clampedAnswer given (clampPresence given)
    results := u16 (clampPresence given)
    state := { s with presencePeriod := clampPresence given } }

/-- SET_PRESENCE is taken (R174). -/
def execSetPresence (p : Port) (tag : Byte) (period : BitVec 16) (s : State) : Host.Outcome State Fault Refusal :=
  .next (s.taking p tag 0x74 (bigEndian 2 period.toNat) (fromService p (fun _ => setPresenceBody period.toNat)))

/-! ## ADOPT (R177) -/

/-- The channels that are not CLOSED and that a service port serves, in ascending order (R177). -/
def State.servedBy (s : State) (q : Service) : List (Fin 48) :=
  (List.finRange 48).filter (fun c => decide ((s.chan c).state ≠ .closed) && decide ((s.chan c).serving = some q))

/-- ADOPT's results for an adoption of n channels (R177). -/
def adoptAnswer (n : Nat) (a : Adoption) : Answer :=
  { completion := .done, results := u8 n ++ u8 a.moved ++ u8 a.dropped, state := a.state }

/-- ADOPT of one channel: its checks in order, then adoption (R177). -/
def adoptOne (p : Service) (c : Fin 48) (s : State) : Answer :=
  if (s.chan c).state = .closed then refuse .state s
  else if (s.chan c).serving = some p then { completion := .done, results := [0, 0, 0], state := s }
  else if s.servicePresent p.other then refuse .ownerPresent s
  else adoptAnswer 1 (s.adoptAll [c] p)

/-- ADOPT of every channel of the other service port (R177). -/
def adoptEvery (p : Service) (s : State) : Answer :=
  if s.servicePresent p.other then refuse .ownerPresent s
  else adoptAnswer (s.servedBy p.other).length (s.adoptAll (s.servedBy p.other) p)

/-- ADOPT's parameter: 0 to 47 for one channel, 255 for all (R177). -/
def adoptBody (channel : Byte) (p : Service) (s : State) : Answer :=
  if channel = 255 then adoptEvery p s
  else
    match channelOf channel with
    | some c => adoptOne p c s
    | none => refuse .range s

/-- ADOPT is taken (R177). -/
def execAdopt (p : Port) (tag channel : Byte) (s : State) : Host.Outcome State Fault Refusal :=
  .next (s.taking p tag 0x75 [channel] (fromService p (adoptBody channel)))

/-! ## Resets (R180) -/

/-- RESET is answered and the command unit makes no further taking (R180). -/
def resetBody (s : State) : Answer := { completion := .done, results := [], state := { s with halted := true } }

/-- RESET is taken (R180). -/
def execReset (p : Port) (tag : Byte) (s : State) : Host.Outcome State Fault Refusal :=
  .next (s.taking p tag 0x7F [] resetBody)

/-- The state after power-on, the level of the reset line and the model's own fields apart; a fault that still waits is
gone, for no record is made for anything the reset ended (R154, R180; log entries 2, 12, 17 and 25). -/
def State.powerOn (s : State) : State :=
  { State.reset with
    log := { State.reset.log with turns := s.log.turns, event := s.log.event }
    resetLine := s.resetLine, responses := s.responses, nonceIndex := s.nonceIndex, pending := s.pending }

/-- A warm reset: as after power-on, but the master key store keeps its slots (R87, R180). -/
def State.warmReset (s : State) : State := { s.powerOn with masters := s.masters }

/-- WARM_RESET: made once RESET's response has left, so after a RESET has been taken (R180; log entry 20). -/
def execWarmReset (s : State) : Host.Outcome State Fault Refusal :=
  .next (s.whileRunning (fun s => if s.halted then s.warmReset else s))

/-- RESET_LINE: the line is asserted, which makes a warm reset (R180). -/
def execResetLine (s : State) : Host.Outcome State Fault Refusal := .next { s.warmReset with resetLine := true }

/-- RESET_LINE_RELEASE: the part runs from the warm-reset values it has held (R180). -/
def execResetLineRelease (s : State) : Host.Outcome State Fault Refusal := .next { s with resetLine := false }

/-- POWER_ON (R180). -/
def execPowerOn (s : State) : Host.Outcome State Fault Refusal := .next s.powerOn

end Sys2Proof.Machine
end

