-- ==== Sys2Proof/Machine/RenewalCommands.lean ====
section
/-! DEFINITION. The commands of chapter 6: RENEW and SET_RENEWAL. -/

namespace Sys2Proof.Machine

/-- RENEW's own checks (R121). -/
def refusedRenew (r : Channel) : Option Completion :=
  if r.state = .opening ∨ r.state = .closing then some .state
  else if r.renewal ≠ .idle then some .busy
  else none

/-- RENEW's effect: a forcing trigger with cause COMMAND, and the new epoch (R121). -/
def renewEffect (c : Fin 48) (s : State) : Answer :=
  { completion := .done, results := u8 (s.chan c).newEpoch.toNat, state := s.trigger c .command }

/-- RENEW is taken (R121). -/
def execRenew (p : Port) (tag channel : Byte) (s : State) : Host.Outcome State Fault Refusal :=
  .next (s.taking p tag 0x40 [channel] (channelCommand p channel refusedRenew renewEffect))

/-- SET_RENEWAL's clamps and effect (R122). -/
def setRenewalBody (given : RenewalParams) (s : State) : Answer :=
  { completion := clampedAnswer given (clampRenewal given)
    results := u16 (clampRenewal given).tOffer ++ u8 (clampRenewal given).retryLimit ++ u8 (clampRenewal given).cutover
    state := { s with renewalParams := clampRenewal given } }

/-- SET_RENEWAL is taken (R122). -/
def execSetRenewal (p : Port) (tag : Byte) (tOffer : BitVec 16) (retryLimit cutover : Byte) (s : State) :
    Host.Outcome State Fault Refusal :=
  .next (s.taking p tag 0x41 (bigEndian 2 tOffer.toNat ++ [retryLimit, cutover])
    (fromService p (fun _ =>
      setRenewalBody { tOffer := tOffer.toNat, retryLimit := retryLimit.toNat, cutover := cutover.toNat })))

end Sys2Proof.Machine
end

