-- ==== Sys2Proof/Machine/Trunk.lean ====
section
/-! DEFINITION. Slots (chapter 2): serving a slot, the events of the trunk line and the clock, and the commands
ASSIGN_SLOT, SET_FRAME, READ_TRUNK and READ_SLOT. -/

namespace Sys2Proof.Machine

/-! ## Served slots (R36, R37, R42) -/

/-- The slot map entry in force that the slot in progress is served by; none when it is not served (R36, R37). -/
def State.servedEntry (s : State) : Option SlotKind :=
  if s.timebase.trunk = .locked ∧ s.sequencer.slot < s.sequencer.frame.slots then
    (s.sequencer.map[s.sequencer.slot]?).map (·.inForce)
  else none

/-- What the line is given in a slot that is not served: IDLE while the trunk is not LOCKED, nothing otherwise (R36,
R37). -/
def State.unservedOut (s : State) : Option Cell := if s.timebase.trunk = .locked then none else some idleCell

/-- The entry of the slot in progress is kept for the slot, with no load event to be taken (R36 step 1). -/
def State.keep (s : State) (k : Option SlotKind) : State :=
  { s with sequencer := { s.sequencer with kept := k, loadDue := false } }

/-- The load event of a served slot (R42). -/
def State.loadEvent (s : State) (k : SlotKind) : Option State :=
  match k with
  | .unused => some { s with lineOut := none }
  | .data c => some (s.loadData c)
  | .control => s.loadControl

/-- A slot boundary opens its slot: the entry is kept when the slot is served, and its load event is then to be taken
(R36, R37). Until it is taken the line is given nothing in the slot. -/
def State.openSlot (s : State) : State :=
  match s.servedEntry with
  | none => { s.keep none with lineOut := s.unservedOut }
  | some k => { s with sequencer := { s.sequencer with kept := some k, loadDue := true }, lineOut := none }

/-- The load event of the slot in progress is taken, where it is still to be taken (R36 step 2, R42). -/
def State.takeDueLoad (s : State) : Option State :=
  match s.sequencer.loadDue, s.sequencer.kept with
  | true, some k => (s.keep (some k)).loadEvent k
  | _, _ => some s

/-- The slot begins: it opens, and its load event is taken with its boundary or left for later (R36; log entry 23). -/
def State.beginSlot (s : State) (load : LoadTime) : Option State :=
  match load with
  | .now => s.openSlot.takeDueLoad
  | .later => some s.openSlot

/-- The slot number advances by one and stays at 65,535 (R36). -/
def State.nextSlot (s : State) : State := { s with sequencer := { s.sequencer with slot := bump s.sequencer.slot } }

/-- The step ends in the state given, or stops where R59's tagging entry is missing. -/
def outcomeOf (r : Option State) : Host.Outcome State Fault Refusal :=
  match r with
  | some s => .next s
  | none => .fault .noTaggingEntry

/-! ## Events of the trunk line and the clock -/

/-- SLOT_BOUNDARY. At a boundary that is not a marker, a load event that the slot in progress still has is taken first,
the slot number advances and the next slot begins. The load part is the load event of the slot in progress (R36; log
entry 23). -/
def execSlotBoundary (s : State) (part : SlotPart := .boundary .now) : Host.Outcome State Fault Refusal :=
  if s.resetLine then .next s
  else
    match part with
    | .boundary load => outcomeOf (s.takeDueLoad.bind (fun t => t.nextSlot.beginSlot load))
    | .load => outcomeOf s.takeDueLoad

/-- A frame marker: a load event that the slot in progress still has, the marker's five steps, and then slot 0, which it
begins (R30, R36; log entries 9 and 23). -/
def execFrameMarker (order : List TickWork) (s : State) (load : LoadTime := .now) : Host.Outcome State Fault Refusal :=
  if s.resetLine then .next s else outcomeOf (s.takeDueLoad.bind (fun t => (t.marker order).beginSlot load))

/-- An arrival in a served slot kept as DATA (R43, R44); in any other slot the event does not happen. -/
def State.dataSlotArrival (s : State) (arrival : Option Cell) : State :=
  match s.sequencer.kept with
  | some (.data c) => s.dataArrival c arrival
  | _ => s

/-- DATA_SLOT_ARRIVAL (R43). -/
def execDataSlotArrival (arrival : Option Cell) (s : State) : Host.Outcome State Fault Refusal :=
  .next (s.whileRunning (fun s => s.dataSlotArrival arrival))

/-- An arrival in a served slot kept as CONTROL (R45); in any other slot the event does not happen. -/
def State.controlSlotArrival (s : State) (arrival : Option Cell) : State :=
  match s.sequencer.kept with
  | some .control => s.controlArrival arrival
  | _ => s

/-- CONTROL_SLOT_ARRIVAL (R45). -/
def execControlSlotArrival (arrival : Option Cell) (s : State) : Host.Outcome State Fault Refusal :=
  .next (s.whileRunning (fun s => s.controlSlotArrival arrival))

/-- PHASE_UNIT (R26). -/
def execPhaseUnit (order : List TickWork) (s : State) : Host.Outcome State Fault Refusal :=
  .next (s.whileRunning (fun s => s.phaseUnit order))

/-- BEAT: the local beat timer wraps, from whatever phase it stands at (R26, R34; log entry 10). -/
def execBeat (order : List TickWork) (s : State) : Host.Outcome State Fault Refusal :=
  .next (s.whileRunning (fun s => s.wrap order))

/-! ## The slot map and the frame parameters (R39, R40, R46, R47) -/

/-- Write one slot map entry. -/
def State.setMapEntry (s : State) (n : Fin 64) (e : MapEntry) : State :=
  { s with sequencer := { s.sequencer with map := s.sequencer.map.set n e } }

/-- The slot map entry of a slot. -/
def State.mapEntry (s : State) (n : Fin 64) : MapEntry := s.sequencer.map[n]

/-- ASSIGN_SLOT's checks and effect (R39). -/
def assignSlotBody (slot kind channel : Byte) (s : State) : Answer :=
  match slotOf slot, slotKindOf kind channel with
  | some n, some k =>
    { completion := .done
      results := (s.mapEntry n).inForce.bytes ++ optSlotKind (some k)
      state := s.setMapEntry n { s.mapEntry n with pending := some k } }
  | _, _ => refuse .range s

/-- ASSIGN_SLOT is taken (R39). -/
def execAssignSlot (p : Port) (tag slot kind channel : Byte) (s : State) : Host.Outcome State Fault Refusal :=
  .next (s.taking p tag 0x10 [slot, kind, channel] (fromService p (fun _ => assignSlotBody slot kind channel)))

/-- SET_FRAME's clamps and effect (R40). -/
def setFrameBody (given : FrameParams) (s : State) : Answer :=
  { completion := clampedAnswer given (clampFrame given)
    results := (clampFrame given).bytes
    state := { s with sequencer := { s.sequencer with pendingFrame := some (clampFrame given) } } }

/-- SET_FRAME is taken (R40). -/
def execSetFrame (p : Port) (tag : Byte) (frame beatLen slip loss : BitVec 16) (s : State) :
    Host.Outcome State Fault Refusal :=
  .next (s.taking p tag 0x11
    (bigEndian 2 frame.toNat ++ bigEndian 2 beatLen.toNat ++ bigEndian 2 slip.toNat ++ bigEndian 2 loss.toNat)
    (fromService p (fun _ =>
      setFrameBody { slots := frame.toNat, beatLen := beatLen.toNat, slip := slip.toNat, loss := loss.toNat })))

/-- READ_TRUNK's results (R46). -/
def readTrunkBody (s : State) : Answer :=
  { completion := .done
    results :=
      [s.timebase.trunk.byte] ++ u8 s.timebase.acquire ++ u8 s.timebase.beats ++ u16 s.timebase.deviation ++
        u32 s.timebase.tick.toNat ++ s.sequencer.frame.bytes ++ [flagByte s.sequencer.pendingFrame.isSome] ++
        (s.sequencer.pendingFrame.getD { slots := 0, beatLen := 0, slip := 0, loss := 0 }).bytes
    state := s }

/-- READ_TRUNK is taken (R46). -/
def execReadTrunk (p : Port) (tag : Byte) (s : State) : Host.Outcome State Fault Refusal :=
  .next (s.taking p tag 0x12 [] (fromService p (fun _ => readTrunkBody)))

/-- READ_SLOT's check and results (R47). -/
def readSlotBody (slot : Byte) (s : State) : Answer :=
  match slotOf slot with
  | some n =>
    { completion := .done
      results :=
        (s.mapEntry n).inForce.bytes ++ optSlotKind (s.mapEntry n).pending ++
          [flagByte (decide (n.val < s.sequencer.frame.slots))]
      state := s }
  | none => refuse .range s

/-- READ_SLOT is taken (R47). -/
def execReadSlot (p : Port) (tag slot : Byte) (s : State) : Host.Outcome State Fault Refusal :=
  .next (s.taking p tag 0x13 [slot] (fromService p (fun _ => readSlotBody slot)))

end Sys2Proof.Machine
end

