-- ==== Sys2Proof/Machine/Dispatch.lean ====
section
/-! DEFINITION. The dispatch: one arm per command, each one call of its meaning. -/

namespace Sys2Proof.Machine

def exec (i : Instr) (s : State) : Host.Outcome State Fault Refusal :=
  match i with
  | .openChannel p tag channel shop slot serving => Sys2Proof.Machine.execOpen p tag channel shop slot serving s
  | .closeChannel p tag channel => Sys2Proof.Machine.execClose p tag channel s
  | .setChannel p tag channel preset ageLimit => Sys2Proof.Machine.execSetChannel p tag channel preset ageLimit s
  | .send p tag channel data => Sys2Proof.Machine.execSend p tag channel data s
  | .readChannel p tag channel => Sys2Proof.Machine.execReadChannel p tag channel s
  | .assignSlot p tag slot kind channel => Sys2Proof.Machine.execAssignSlot p tag slot kind channel s
  | .setFrame p tag frame beatLen slip loss => Sys2Proof.Machine.execSetFrame p tag frame beatLen slip loss s
  | .readTrunk p tag => Sys2Proof.Machine.execReadTrunk p tag s
  | .readSlot p tag slot => Sys2Proof.Machine.execReadSlot p tag slot s
  | .take p tag => Sys2Proof.Machine.execTake p tag s
  | .resume p tag channel => Sys2Proof.Machine.execResume p tag channel s
  | .setSync p tag jump threshold => Sys2Proof.Machine.execSetSync p tag jump threshold s
  | .loadMaster p tag slot key => Sys2Proof.Machine.execLoadMaster p tag slot key s
  | .eraseMaster p tag slot => Sys2Proof.Machine.execEraseMaster p tag slot s
  | .renew p tag channel => Sys2Proof.Machine.execRenew p tag channel s
  | .setRenewal p tag tOffer retryLimit cutover => Sys2Proof.Machine.execSetRenewal p tag tOffer retryLimit cutover s
  | .readQuality p tag channel => Sys2Proof.Machine.execReadQuality p tag channel s
  | .setQuality p tag period low high storm silence => Sys2Proof.Machine.execSetQuality p tag period low high storm silence s
  | .readFault p tag => Sys2Proof.Machine.execReadFault p tag s
  | .status p tag => Sys2Proof.Machine.execStatus p tag s
  | .clearStartup p tag => Sys2Proof.Machine.execClearStartup p tag s
  | .present p tag => Sys2Proof.Machine.execPresent p tag s
  | .setAttention p tag mask => Sys2Proof.Machine.execSetAttention p tag mask s
  | .setPresence p tag period => Sys2Proof.Machine.execSetPresence p tag period s
  | .adopt p tag channel => Sys2Proof.Machine.execAdopt p tag channel s
  | .reset p tag => Sys2Proof.Machine.execReset p tag s
  | .warmReset => Sys2Proof.Machine.execWarmReset s
  | .resetLine => Sys2Proof.Machine.execResetLine s
  | .resetLineRelease => Sys2Proof.Machine.execResetLineRelease s
  | .powerOn => Sys2Proof.Machine.execPowerOn s
  | .frameArrival p bytes => Sys2Proof.Machine.execFrameArrival p bytes s
  | .beat order => Sys2Proof.Machine.execBeat order s
  | .trunkLoss => Sys2Proof.Machine.execTrunkLoss s
  | .frameMarker order load => Sys2Proof.Machine.execFrameMarker order s load
  | .slotBoundary part => Sys2Proof.Machine.execSlotBoundary s part
  | .hardLimit c => Sys2Proof.Machine.execHardLimit c s
  | .presetTrigger c => Sys2Proof.Machine.execPresetTrigger c s
  | .dataSlotArrival cell => Sys2Proof.Machine.execDataSlotArrival cell s
  | .lossOfSync c => Sys2Proof.Machine.execLossOfSync c s
  | .controlSlotArrival cell => Sys2Proof.Machine.execControlSlotArrival cell s
  | .tagStorm c => Sys2Proof.Machine.execTagStorm c s
  | .keyingEntry c => Sys2Proof.Machine.execKeyingEntry c s
  | .closingEnd c => Sys2Proof.Machine.execClosingEnd c s
  | .ageTrigger c => Sys2Proof.Machine.execAgeTrigger c s
  | .holdOffEnd c => Sys2Proof.Machine.execHoldOffEnd c s
  | .offerTimerExpiry c => Sys2Proof.Machine.execOfferTimerExpiry c s
  | .resyncTimerExpiry c => Sys2Proof.Machine.execResyncTimerExpiry c s
  | .cutoverTimerExpiry c => Sys2Proof.Machine.execCutoverTimerExpiry c s
  | .silenceLimit c => Sys2Proof.Machine.execSilenceLimit c s
  | .periodEnd order => Sys2Proof.Machine.execPeriodEnd order s
  | .presenceExpiry p => Sys2Proof.Machine.execPresenceExpiry p s
  | .phaseUnit order => Sys2Proof.Machine.execPhaseUnit order s

end Sys2Proof.Machine
end

