-- ==== Sys2Proof/Machine/Step.lean ====
section
/-! DEFINITION. One step of the block: the command at the front of the queue, or, with the queue empty, the fault log's
own turn or the command unit's own next taking. -/

namespace Sys2Proof.Machine

/-- A step takes the front command and runs exec on it with the rest of the queue. With no command waiting, the fault log
takes faults that wait (R156), unless its turn passes; then the command unit takes the next frame of the port links' queues
(R169), and with none there either the block idles (log entries 4 and 25). -/
def step (s : State) : Host.Outcome State Fault Refusal :=
  match s.pending with
  | c :: rest => exec c { s with pending := rest }
  | [] =>
    if s.logActs then .next s.logTurn
    else
      match s.passTurn.nextTaking with
      | some c => exec c s.passTurn
      | none => .next s.passTurn

/-- The command that a table word spells is put at the front of the queue; no word spells one. -/
def State.withFetchWord (s : State) (nbits w : Nat) : State :=
  match decodeTableWord nbits w with
  | some c => { s with pending := c :: s.pending }
  | none => s

end Sys2Proof.Machine
end

