-- ==== Sys2Proof/Safety.lean ====
section
/-! DEFINITION. What a sound state is, block by block: the laws that the manual states of its records, queues, counters
and parameters. A safe run is one whose every state is sound. -/

namespace Sys2Proof.Machine

/-! ## Records (R1, R2, R5, R18, R74, R97, R98, R124) -/

/-- The pending list holds no entry of a family. -/
abbrev Channel.NonePending (r : Channel) (f : Family) : Prop := ∀ x ∈ r.pendingCells, x.family ≠ f

/-- The key entries that R2 lets a record hold in its state; a CLOSED record holds its closed values (R4), and an OPENING
or CLOSING one has nothing in flight (R10, R12). -/
def Channel.EntriesFit (r : Channel) : Prop :=
  match r.state with
  | .closed => r = Channel.closedValues
  | .opening =>
    r.current = none ∧ r.previous = none ∧ r.pendingEntry = none ∧ r.base = none ∧ r.renewal = .idle ∧
      r.wanted = none ∧ r.holdOff = 0 ∧ r.pendingCells = [] ∧ r.held = false ∧ r.sync = .sync ∧ r.challenge = none
  | .keying => r.current = none ∧ r.previous = none ∧ r.base.isSome ∧ r.challenge = none
  | .active => r.current.isSome ∧ r.base = none
  | .closing =>
    r.current = none ∧ r.previous = none ∧ r.pendingEntry = none ∧ r.base = none ∧ r.renewal = .idle ∧
      r.wanted = none ∧ r.holdOff = 0 ∧ r.pendingCells = [] ∧ r.held = false ∧ r.sync = .sync ∧ r.challenge = none

/-- R97's table of the fields that hold together, by renewal state. -/
def Channel.RenewalFits (r : Channel) : Prop :=
  match r.renewal with
  | .idle => r.pendingEntry = none ∧ r.offerTimer = none ∧ r.previous = none ∧ r.NonePending .renewal
  | .offered =>
    r.previous = none ∧
      match r.pendingEntry with
      | some p =>
        p.keys = none ∧
          ((r.offerTimer = none ∧ .offer p.epoch p.nonce ∈ r.pendingCells) ∨
            (r.offerTimer.isSome ∧ r.NonePending .renewal))
      | none => False
  | .agreed =>
    r.previous = none ∧ r.offerTimer = none ∧
      match r.pendingEntry with
      | some p => p.keys.isSome ∧ .switch p.epoch ∈ r.pendingCells
      | none => False
  | .cutover => r.pendingEntry = none ∧ r.offerTimer = none ∧ r.previous.isSome ∧ r.NonePending .renewal

/-- The resync exchange (R74): ended, or running in HUNT on an ACTIVE channel, waiting to send or awaiting MARK. -/
def Channel.ExchangeFits (r : Channel) : Prop :=
  match r.challenge with
  | none => r.resyncTimer = none ∧ r.resyncRetries = 0 ∧ r.NonePending .challenge
  | some x =>
    r.state = .active ∧ r.sync = .hunt ∧
      ((r.resyncTimer = none ∧ .resync x ∈ r.pendingCells) ∨ (r.resyncTimer.isSome ∧ r.NonePending .challenge))

/-- Serving port, master slot and shop code are absent only while CLOSED (R1, R88). -/
abbrev Channel.OwnerFits (r : Channel) : Prop :=
  r.state ≠ .closed → r.serving.isSome ∧ r.master.isSome ∧ r.shop.isSome

/-- At most one pending cell of each family, and a MARK only on an ACTIVE channel (R59, R81, R124). -/
abbrev Channel.ListFits (r : Channel) : Prop :=
  (r.pendingCells.map ControlCell.family).Nodup ∧ (r.state = .active ∨ r.NonePending .answer)

/-- A record whose parts fit each other. -/
structure Channel.Fits (r : Channel) : Prop where
  entries : r.EntriesFit
  renewal : r.RenewalFits
  exchange : r.ExchangeFits
  owner : r.OwnerFits
  list : r.ListFits

/-- The next tx sequence never passes the hard limit, and an ACTIVE channel is HELD exactly when it stands there (R5,
R21). -/
def Channel.SequenceFits (r : Channel) : Prop :=
  match r.current with
  | some e => e.nextTx ≤ 16776960 ∧ (r.held = true ↔ e.nextTx = 16776960)
  | none => r.held = false

/-- The epochs of a record: the base entry's is 0, the current entry's 1 to 255, and the pending, current and previous
epochs follow one another, 1 following 255 (R98). -/
structure Channel.EpochsFit (r : Channel) : Prop where
  base : ∀ e, r.base = some e → e.epoch = 0
  current : ∀ e, r.current = some e → e.key.epoch ≠ 0
  pending : ∀ p, r.pendingEntry = some p → p.epoch = r.newEpoch
  previous : ∀ p, r.previous = some p →
    p.key.epoch ≠ 0 ∧ ∀ e, r.current = some e → e.key.epoch = epochAfter p.key.epoch

/-- A window's seen-set lies within 63 of H and holds H; an empty window has an empty one (R61). -/
def Window.Fits (w : Window) : Prop :=
  match w.high with
  | none => w.seen = []
  | some h => h ∈ w.seen ∧ (∀ q ∈ w.seen, q ≤ h ∧ h - q < 64) ∧ w.seen.Pairwise (· > ·)

/-- The windows of the current and the previous entry fit. -/
structure Channel.WindowsFit (r : Channel) : Prop where
  current : ∀ e, r.current = some e → e.window.Fits
  previous : ∀ p, r.previous = some p → p.window.Fits

/-- All nine counts are 16-bit (R138). -/
abbrev Counts.Fits (n : Counts) : Prop :=
  n.g ≤ 65535 ∧ n.t ≤ 65535 ∧ n.j ≤ 65535 ∧ n.e ≤ 65535 ∧ n.x ≤ 65535 ∧ n.r ≤ 65535 ∧ n.d ≤ 65535 ∧
    n.withheld ≤ 65535 ∧ n.idle ≤ 65535

/-- The ranges of a quality state (R138). -/
structure Quality.Fits (q : Quality) : Prop where
  counts : q.counts.Fits
  last : q.last.Fits
  lastScore : ∀ n, q.lastScore = some n → n ≤ 1000
  smoothed : q.smoothed ≤ 1000
  silence : q.silence ≤ 65535

/-- A countdown timer is stopped, or runs with a count of 1 to 1,023 (R74, R97). -/
abbrev countdownFits (timer : Option Nat) : Prop := ∀ n, timer = some n → 1 ≤ n ∧ n ≤ 1023

/-- The ranges of the other fields of a record (R1, R6, R7, R18, R72, R74, R97). -/
structure Channel.InRange (r : Channel) : Prop where
  shop : ∀ n, r.shop = some n → n ≠ 0
  outbound : r.outbound.length ≤ 8
  lengths : ∀ x ∈ r.outbound, 1 ≤ x.length ∧ x.length ≤ 48
  preset : 1024 ≤ r.preset ∧ r.preset ≤ 16000000
  ageLimit : r.ageLimit = 0 ∨ (256 ≤ r.ageLimit ∧ r.ageLimit ≤ 4000000000)
  age : ∀ e, r.current = some e → e.age ≤ 4294967295
  holdOff : r.holdOff ≤ 8184
  offerTimer : countdownFits r.offerTimer
  resyncTimer : countdownFits r.resyncTimer
  cutover : ∀ p, r.previous = some p → 1 ≤ p.cutover ∧ p.cutover ≤ 255
  syncLoss : r.syncLoss ≤ 15
  retries : r.renewRetries ≤ 7 ∧ r.resyncRetries ≤ 7
  quality : r.quality.Fits

/-! ## The master key store (R88) -/

/-- Every channel that is not CLOSED is bound to a LOADED slot (R88). -/
def State.BindingLaw (s : State) : Prop :=
  ∀ c : Fin 48, (s.chan c).state ≠ .closed → ∃ m : Fin 4, (s.chan c).master = some m ∧ s.masters[m] ≠ .empty

/-- The records fit and every open channel is bound: what R59 rests on. -/
structure State.RecordsSound (s : State) : Prop where
  records : ∀ c : Fin 48, (s.chan c).Fits
  binding : s.BindingLaw

/-! ## Inbound queues (R82) -/

/-- Each inbound queue holds at most 32 cells, each of an ACTIVE channel that the queue's port serves. R82 says of a
channel that is not CLOSED; cells are delivered to ACTIVE channels only (R62), and leave with the teardown (R12). -/
def State.InboundSound (s : State) : Prop :=
  ∀ q : Service, (s.inbound q).length ≤ 32 ∧
    ∀ x ∈ s.inbound q, (s.chan x.channel).state = .active ∧ (s.chan x.channel).serving = some q

/-- The ranges of a delivered cell: epoch 1 to 255, sequence 0 to 16,776,959, length 1 to 48 (R82). -/
abbrev Delivered.InRange (x : Delivered) : Prop :=
  x.epoch ≠ 0 ∧ x.sequence ≤ 16776959 ∧ 1 ≤ x.data.length ∧ x.data.length ≤ 48

/-- Every cell in an inbound queue is in its ranges (R82). -/
def State.CellsInRange (s : State) : Prop := ∀ q : Service, ∀ x ∈ s.inbound q, x.InRange

/-! ## The fault log (R153, R154) -/

/-- At most 64 records, with consecutive numbers that end just below the next record number; repeat counts 1 to 65,535;
and the lost counter within 65,535 (R153, R154). Every waiting fault is of an event before the next one, so faults of two
events never share a number (R156; log entry 25). -/
structure FaultLog.Sound (log : FaultLog) : Prop where
  length : log.records.length ≤ 64
  numbers : log.records.map (·.number) =
    (List.range log.records.length).map (fun i => log.next - BitVec.ofNat 32 (log.records.length - i))
  repeats : ∀ r ∈ log.records, 1 ≤ r.repeats ∧ r.repeats ≤ 65535
  lost : log.lost ≤ 65535
  events : ∀ f ∈ log.waiting, f.event < log.event

/-! ## Port links (R167, R168, R173, R178) -/

/-- A port link: at most 4 frames, all well formed; counts in range; a timer that stands at 0 while ABSENT; and an
attention mask of three bits. -/
structure PortLink.Sound (l : PortLink) : Prop where
  length : l.queue.length ≤ 4
  frames : ∀ f ∈ l.queue, frameWellFormed f = true
  framing : l.framing ≤ 65535
  timer : l.timer ≤ 65535
  absent : l.present = false → l.timer = 0
  mask : l.mask.toNat < 8

/-! ## Timebase, slots and parameters (R29, R36, R40, R86, R99, R140, R150, R173) -/

/-- The ranges of the frame parameters (R40). -/
abbrev FrameParams.InRange (f : FrameParams) : Prop :=
  8 ≤ f.slots ∧ f.slots ≤ 64 ∧ 256 ≤ f.beatLen ∧ f.beatLen ≤ 65535 ∧ 1 ≤ f.slip ∧ f.slip ≤ f.beatLen / 4 ∧
    2 ≤ f.loss ∧ f.loss ≤ 15

/-- The acquire count of a trunk state (R29). -/
def TrunkState.acquireCount : TrunkState → Nat
  | .lost => 0
  | .acquiring => 1
  | .locked => 2

/-- The timebase and the slot sequencer (R26, R29, R36, R40): the phase lies below BEAT_LEN, the acquire count is the
trunk state's, no slot is served unless the trunk is LOCKED, only a served slot has a load event to be taken, and the
frame parameters are in range. -/
structure State.TrunkSound (s : State) : Prop where
  phase : s.timebase.phase < s.sequencer.frame.beatLen
  acquire : s.timebase.acquire = s.timebase.trunk.acquireCount
  beats : s.timebase.beats ≤ 15
  slot : s.sequencer.slot ≤ 65535
  kept : s.sequencer.kept.isSome → s.timebase.trunk = .locked
  loadDue : s.sequencer.loadDue = true → s.sequencer.kept.isSome
  frame : s.sequencer.frame.InRange
  pendingFrame : ∀ f, s.sequencer.pendingFrame = some f → f.InRange

/-- The part-wide parameters lie in their ranges, and low below high (R86, R99, R150, R173). -/
structure State.ParamsSound (s : State) : Prop where
  jump : 64 ≤ s.receive.jump ∧ s.receive.jump ≤ 65535
  threshold : 1 ≤ s.receive.threshold ∧ s.receive.threshold ≤ 15
  tOffer : 4 ≤ s.renewalParams.tOffer ∧ s.renewalParams.tOffer ≤ 1023
  retryLimit : s.renewalParams.retryLimit ≤ 7
  cutover : 1 ≤ s.renewalParams.cutover ∧ s.renewalParams.cutover ≤ 255
  period : 16 ≤ s.qualityParams.period ∧ s.qualityParams.period ≤ 65535
  thresholds : s.qualityParams.low < s.qualityParams.high ∧ s.qualityParams.high ≤ 1000
  storm : 1 ≤ s.qualityParams.stormLimit ∧ s.qualityParams.stormLimit ≤ 255
  silence : 16 ≤ s.qualityParams.silenceLimit ∧ s.qualityParams.silenceLimit ≤ 65535
  presence : 16 ≤ s.presencePeriod ∧ s.presencePeriod ≤ 65535
  stray : s.stray ≤ 65535
  periodTimer : s.periodTimer ≤ 65535

/-! ## The terms that statements about commands are made in -/

/-- The state after a frame of port p has been taken and answered, its command having changed nothing (R169, R170). -/
def State.answered (s : State) (p : Port) (tag code : Byte) (completion : Completion) (results : List Byte) : State :=
  (s.taken p).respond p tag code completion results

/-- The state after power-on, with what no reset touches: the responses made, the place in the nonce source, the log's
coming turns and event number, and the commands that wait, which are the model's own (log entries 2, 12 and 25). -/
def State.kept (s : State) : State :=
  { State.reset with
    log := { State.reset.log with turns := s.log.turns, event := s.log.event }, responses := s.responses, nonceIndex := s.nonceIndex, pending := s.pending }

/-- Port q may command channel c: it serves the channel, or the port that serves it is ABSENT (R9). -/
def State.mayCommand (s : State) (q : Service) (c : Fin 48) : Prop :=
  ∃ o, (s.chan c).serving = some o ∧ (o = q ∨ (s.link o.port).present = false)

/-- The rows that R9 checks as channel commands, with port, tag, code and channel byte; a SEND within its data lengths. -/
def channelCommandOf : Instr → Option (Port × Byte × Byte × Byte)
  | .closeChannel p tag c => some (p, tag, 0x02, c)
  | .setChannel p tag c _ _ => some (p, tag, 0x03, c)
  | .send p tag c data => if 1 ≤ data.length ∧ data.length ≤ 48 then some (p, tag, 0x04, c) else none
  | .resume p tag c => some (p, tag, 0x21, c)
  | .renew p tag c => some (p, tag, 0x40, c)
  | _ => none

/-- The next slot boundary begins a served slot whose entry in force is k (R36). -/
def State.servesNext (s : State) (k : SlotKind) : Prop :=
  s.resetLine = false ∧ s.timebase.trunk = .locked ∧
    ∃ n : Fin 64, n.val = s.sequencer.slot + 1 ∧ n.val < s.sequencer.frame.slots ∧ s.sequencer.map[n].inForce = k

/-- The state in that slot: the slot number has advanced, and the entry is kept (R36). -/
def State.inNextSlot (s : State) (k : SlotKind) : State :=
  { s with sequencer := { s.sequencer with slot := s.sequencer.slot + 1, kept := some k } }

/-- SLOT_BOUNDARY with this part takes the load event of a slot served under entry k, and takes it on state t: with the
boundary that begins the slot, or later in the slot, when an arrival or any other event may have come between (R36,
R129; log entry 23). -/
def State.takesLoad (s : State) (part : SlotPart) (k : SlotKind) (t : State) : Prop :=
  match part with
  | .boundary .now => s.sequencer.loadDue = false ∧ s.servesNext k ∧ t = s.inNextSlot k
  | .boundary .later => False
  | .load =>
    s.resetLine = false ∧ s.sequencer.loadDue = true ∧ s.sequencer.kept = some k ∧
      t = { s with sequencer := { s.sequencer with loadDue := false } }

/-- The slot in progress is served under entry k, so an arrival in it is routed by k (R36). -/
def State.arrivesIn (s : State) (k : SlotKind) : Prop := s.resetLine = false ∧ s.sequencer.kept = some k

/-- The entry that an epoch tag selects: the current entry when the tag is its epoch modulo 4, else the previous entry when
the tag is that one's (R65, R133). -/
def Channel.Selects (r : Channel) (tag : BitVec 2) (sel : Selection) : Prop :=
  (∃ e, r.current = some e ∧ epochTag e.key.epoch = tag ∧ sel = { key := e.key, window := e.window, isCurrent := true }) ∨
    ((∀ e, r.current = some e → epochTag e.key.epoch ≠ tag) ∧
      ∃ p, r.previous = some p ∧ epochTag p.key.epoch = tag ∧
        sel = { key := p.key, window := p.window, isCurrent := false })

/-- An epoch tag that selects no entry: an unknown epoch (R65, R133). -/
def Channel.UnknownEpoch (r : Channel) (tag : BitVec 2) : Prop :=
  (∀ e, r.current = some e → epochTag e.key.epoch ≠ tag) ∧ (∀ p, r.previous = some p → epochTag p.key.epoch ≠ tag)

/-- The cell is of traffic kind k for channel c: its header passes the six checks of R51 and the slot match (R63). -/
def isTraffic (k : CellKind) (c : Fin 48) (cell : Cell) : Prop :=
  (k = .data ∨ k = .pad) ∧ cellKindOf cell = some k ∧ headerSound k cell.header = true ∧
    (headerChannel cell.header).toNat = c.val

/-- The cell is a control cell of kind k that names channel c: its header passes CHECK, ZERO and CHANNEL (R130). -/
def namesChannel (k : CellKind) (c : Fin 48) (cell : Cell) : Prop :=
  cellKindOf cell = some k ∧ k.controlLength.isSome ∧ checkPasses cell.header = true ∧ zeroPasses cell.header = true ∧
    (headerChannel cell.header).toNat = c.val

/-- The cell is a sound control cell of kind k of channel c: its sequence is 0 and its length the kind's as well (R131). -/
def isControl (k : CellKind) (c : Fin 48) (cell : Cell) : Prop :=
  namesChannel k c cell ∧ headerSequence cell.header = 0 ∧ k.controlLength = some (headerLength cell.header).toNat

/-- Slot 0, which a marker begins, is served after the marker's tick: the outcome o of the marker that leaves state t is
that of the load event of slot 0's entry in force, or, where the load event is left for later, slot 0 with its entry kept
and nothing on the line (R36, R42; log entry 23). -/
def State.beginsFrame (t : State) (load : LoadTime) (o : Host.Outcome State Fault Refusal) : Prop :=
  let k := t.sequencer.map[(0 : Fin 64)].inForce
  match load, k with
  | .later, _ =>
    o = .next { t with sequencer := { t.sequencer with kept := some k, loadDue := true }, lineOut := none }
  | .now, .unused => o = .next { t.keep (some .unused) with lineOut := none }
  | .now, .data c => o = .next ((t.keep (some (.data c))).loadData c)
  | .now, .control =>
    ((∀ c, (t.chan c).pendingCells = []) → o = .next { t.keep (some .control) with lineOut := some idleCell }) ∧
      ∀ u, (t.keep (some .control)).loadControl = some u → o = .next u

/-- How far channel c stands in the arbiter's scan, which begins after the last channel served (R127). -/
def scanDistance (last c : Fin 48) : Nat := (c.val + 47 - last.val) % 48

/-- The channel whose record a piece of a tick's work may change, if it changes one. -/
def workChannel : TickWork → Option (Fin 48)
  | .keyingEntry c => some c
  | .closingEnd c => some c
  | .ageTrigger c => some c
  | .holdOffEnd c => some c
  | .offerExpiry c => some c
  | .resyncExpiry c => some c
  | .cutoverExpiry c => some c
  | .silence c => some c
  | .score c => some c
  | .presence _ => none

/-- A window rejects a sequence under every jump limit: the sequence lies at or below H, and is stale or seen (R66). -/
def Window.Spent (w : Window) (q : Nat) : Prop := ∃ h, w.high = some h ∧ q ≤ h ∧ (64 ≤ h - q ∨ q ∈ w.seen)

/-! ## The whole state -/

/-- A sound state. -/
structure State.Sound (s : State) : Prop where
  records : s.RecordsSound
  sequences : ∀ c : Fin 48, (s.chan c).SequenceFits
  epochs : ∀ c : Fin 48, (s.chan c).EpochsFit
  windows : ∀ c : Fin 48, (s.chan c).WindowsFit
  ranges : ∀ c : Fin 48, (s.chan c).InRange
  inbound : s.InboundSound
  cells : s.CellsInRange
  log : s.log.Sound
  links : ∀ p : Port, (s.link p).Sound
  trunk : s.TrunkSound
  params : s.ParamsSound

/-- A run is safe when every state it reaches is sound and no step of it stops. -/
def SafeRun (s : State) : Prop :=
  ∀ n : Nat, ∃ t, Host.Core.run Sys2Proof.core n s = .next t ∧ t.Sound

end Sys2Proof.Machine
end

