-- ==== Sys2Proof/WellFormed.lean ====
section
/-! DEFINITION. Which commands are well formed: what the types of Instr do not say already. -/

namespace Sys2Proof

/-- A SEND carries at most 63 data bytes, since its parameter length is 1 to 64 (10_ports_and_commands.md 10.10),
and an event that makes a tick names no piece of work twice. Everything else is well formed by its type. -/
def Instr.wellFormed : Instr → Bool
  | .openChannel _ _ _ _ _ _ => true
  | .closeChannel _ _ _ => true
  | .setChannel _ _ _ _ _ => true
  | .send _ _ _ data => decide (data.length ≤ 63)
  | .readChannel _ _ _ => true
  | .assignSlot _ _ _ _ _ => true
  | .setFrame _ _ _ _ _ _ => true
  | .readTrunk _ _ => true
  | .readSlot _ _ _ => true
  | .take _ _ => true
  | .resume _ _ _ => true
  | .setSync _ _ _ _ => true
  | .loadMaster _ _ _ _ => true
  | .eraseMaster _ _ _ => true
  | .renew _ _ _ => true
  | .setRenewal _ _ _ _ _ => true
  | .readQuality _ _ _ => true
  | .setQuality _ _ _ _ _ _ _ => true
  | .readFault _ _ => true
  | .status _ _ => true
  | .clearStartup _ _ => true
  | .present _ _ => true
  | .setAttention _ _ _ => true
  | .setPresence _ _ _ => true
  | .adopt _ _ _ => true
  | .reset _ _ => true
  | .warmReset => true
  | .resetLine => true
  | .resetLineRelease => true
  | .powerOn => true
  | .frameArrival _ _ => true
  | .beat order => decide order.Nodup
  | .trunkLoss => true
  | .frameMarker order _ => decide order.Nodup
  | .slotBoundary _ => true
  | .hardLimit _ => true
  | .presetTrigger _ => true
  | .dataSlotArrival _ => true
  | .lossOfSync _ => true
  | .controlSlotArrival _ => true
  | .tagStorm _ => true
  | .keyingEntry _ => true
  | .closingEnd _ => true
  | .ageTrigger _ => true
  | .holdOffEnd _ => true
  | .offerTimerExpiry _ => true
  | .resyncTimerExpiry _ => true
  | .cutoverTimerExpiry _ => true
  | .silenceLimit _ => true
  | .periodEnd order => decide order.Nodup
  | .presenceExpiry _ => true
  | .phaseUnit order => decide order.Nodup

end Sys2Proof
end

