-- ==== Sys2Proof/Certificates/Slice0/Obligations.lean ====
section
/-! DEFINITION. The statements for the provers. A statement that gives the whole next state gives its frame with it: what
the equation does not change is unchanged. Statements about the model's own choices say so and name the log entry. A
command statement holds of every taking that can come (`canTake`): the command unit is taking, and the frame is the head
frame of the port that R169 chooses, or no frame waits (log entry 3). -/

open Sys2Proof Sys2Proof.Machine

/-! ## The block's step and the command unit -/

/-- A step takes the command at the front of the queue and runs exec on it with the queue's rest. -/
def Obligations.StepRunsFrontCommand : Prop :=
  ∀ (s : State) (c : Instr) (rest : List Instr), s.pending = c :: rest → step s = exec c { s with pending := rest }

/-- With no command waiting, a fault that waits is the log's to take: the step is a turn of the log (R156), unless that turn
passes. With no fault waiting, or the log's turn passing, the command unit takes the head frame of the port that the round
robin A, B, K finds first after the last port served (R169), and with every command queue empty the block idles (the
model's choices, log entries 4 and 25). -/
def Obligations.StepTakesNextFrame : Prop :=
  ∀ s : State, s.pending = [] → s.resetLine = false →
    (s.log.waiting ≠ [] → s.log.turns.head? ≠ some [] → step s = .next { s with log := s.log.turn s.link }) ∧
    (s.halted = false → s.log.waiting = [] ∨ s.log.turns.head? = some [] →
      let u :=
        if s.log.waiting = [] then s else { s with log := { s.log with turns := s.log.turns.tail } }
      (∀ (p : Port) (frame : List Byte) (rest : List (List Byte)) (i : Instr),
        (match s.lastPort with
          | .a => p = .b ∨ (p = .k ∧ s.portB.queue = []) ∨ (p = .a ∧ s.portB.queue = [] ∧ s.portK.queue = [])
          | .b => p = .k ∨ (p = .a ∧ s.portK.queue = []) ∨ (p = .b ∧ s.portK.queue = [] ∧ s.portA.queue = [])
          | .k => p = .a ∨ (p = .b ∧ s.portA.queue = []) ∨ (p = .k ∧ s.portA.queue = [] ∧ s.portB.queue = [])) →
        (s.link p).queue = frame :: rest → commandOfFrame p frame = some i →
        step s = exec i u ∧ u.canTake p frame = true ∧ ((u.taken p).link p).queue = rest ∧
          (u.taken p).lastPort = p) ∧
      (s.portA.queue = [] → s.portB.queue = [] → s.portK.queue = [] → step s = .next u))

/-- Reading the frame of a command gives the command back, with every operand at every value its encoding admits, and the
frame is well formed (R165, 10.10): all 26 rows that are command frames. -/
def Obligations.CommandFramesReadBack : Prop :=
  ∀ (i : Instr) (p : Port) (bytes : List Byte), i.wellFormed = true → frameOf i = some (p, bytes) →
    frameWellFormed bytes = true ∧ commandOfFrame p bytes = some i

/-- Every frame that meets the four conditions of R165 is the frame of exactly the one command that it is read as. -/
def Obligations.WellFormedFramesAreCommands : Prop :=
  ∀ (p : Port) (bytes : List Byte), frameWellFormed bytes = true →
    ∃ i : Instr, i.wellFormed = true ∧ frameOf i = some (p, bytes) ∧ commandOfFrame p bytes = some i ∧
      ∀ j : Instr, frameOf j = some (p, bytes) → j = i

/-- A taken command is judged in the order of R170: outside its port's list it is answered PRIVILEGE whatever its
parameters (R171); then, while the startup condition is set, STARTUP unless it is STATUS, CLEAR_STARTUP or RESET (R172).
Either refusal changes nothing else: all 26 rows that are command frames. The response that ends a taking, in these and in
every other statement, is one frame of tag, code, completion code, result length and results, joined to those the port has
made (R166), and the frame taken has left the head of its port's queue, the port being the last one served (R168, R169). -/
def Obligations.CommandsAreJudgedInOrder : Prop :=
  (∀ (s : State) (i : Instr) (p : Port) (tag code : Byte) (params : List Byte),
    frameOf i = some (p, commandFrame code tag params) → s.canTake p (commandFrame code tag params) = true →
    let admitted :=
      if p = .k then code ∈ ([0x30, 0x31, 0x60, 0x70, 0x71, 0x72, 0x73, 0x7F] : List Byte)
      else code ∉ ([0x30, 0x31, 0x7F] : List Byte)
    (¬ admitted → exec i s = .next (s.answered p tag code .privilege [])) ∧
    (admitted → s.startup = true → code ∉ ([0x70, 0x71, 0x7F] : List Byte) →
      exec i s = .next (s.answered p tag code .startup []))) ∧
  (∀ (s : State) (p : Port) (tag code : Byte) (completion : Completion) (results : List Byte),
    let value : Byte :=
      match completion with
      | .done => 0
      | .adjusted => 1
      | .startup => 2
      | .privilege => 3
      | .format => 4
      | .range => 5
      | .relation => 6
      | .state => 7
      | .busy => 8
      | .queueFull => 9
      | .empty => 10
      | .notServing => 11
      | .ownerPresent => 12
      | .noMaster => 13
      | .inUse => 14
      | .portFull => 15
    let responses := s.responses ++ [⟨p, tag :: code :: value :: BitVec.ofNat 8 results.length :: results⟩]
    s.respond p tag code completion results = { s with responses := responses } ∧
    s.answered p tag code completion results =
      { s.setLink p { s.link p with queue := (s.link p).queue.tail } with lastPort := p, responses := responses })

/-- The checks that R9 puts before the own checks of CLOSE, SET_CHANNEL, SEND, RESUME and RENEW: RANGE for a channel id of
48 or above, STATE for a CLOSED channel, NOT_SERVING from the other service port while the serving port is PRESENT.
Then the own checks: CLOSE and SEND on a CLOSING channel STATE (R13, R17), SEND to a full outbound queue QUEUE_FULL,
and outside 1 to 48 data bytes RANGE before all others (R17), RESUME of a channel that is not SUSPENDED STATE (R80),
RENEW of an OPENING or CLOSING channel STATE and during a renewal BUSY (R121). A refused command changes nothing else,
the serving port included. -/
def Obligations.ChannelCommandsAreChecked : Prop :=
  (∀ (s : State) (i : Instr) (q : Service) (tag code ch : Byte) (params : List Byte),
      channelCommandOf i = some (q.port, tag, code, ch) → frameOf i = some (q.port, commandFrame code tag params) →
      s.canTake q.port (commandFrame code tag params) = true → s.startup = false →
      (48 ≤ ch.toNat → exec i s = .next (s.answered q.port tag code .range [])) ∧
      (∀ c : Fin 48, ch.toNat = c.val → (s.chan c).state = .closed →
        exec i s = .next (s.answered q.port tag code .state [])) ∧
      (∀ (c : Fin 48) (o : Service), ch.toNat = c.val → (s.chan c).state ≠ .closed → (s.chan c).serving = some o →
        o ≠ q → (s.link o.port).present = true → exec i s = .next (s.answered q.port tag code .notServing []))) ∧
  (∀ (s : State) (q : Service) (tag ch : Byte) (data : List Byte) (c : Fin 48), s.startup = false →
      (s.canTake q.port (commandFrame 0x04 tag (ch :: data)) = true → data.length = 0 ∨ 48 < data.length →
        exec (.send q.port tag ch data) s = .next (s.answered q.port tag 0x04 .range [])) ∧
      (ch.toNat = c.val → s.mayCommand q c →
        (s.canTake q.port (commandFrame 0x02 tag [ch]) = true → (s.chan c).state = .closing →
          exec (.closeChannel q.port tag ch) s = .next (s.answered q.port tag 0x02 .state [])) ∧
        (s.canTake q.port (commandFrame 0x04 tag (ch :: data)) = true → 1 ≤ data.length → data.length ≤ 48 →
          ((s.chan c).state = .closing →
            exec (.send q.port tag ch data) s = .next (s.answered q.port tag 0x04 .state [])) ∧
          ((s.chan c).state ≠ .closing → (s.chan c).state ≠ .closed →
            8 ≤ (s.chan c).outbound.length →
            exec (.send q.port tag ch data) s = .next (s.answered q.port tag 0x04 .queueFull []))) ∧
        (s.canTake q.port (commandFrame 0x21 tag [ch]) = true → (s.chan c).sync ≠ .suspended →
          (s.chan c).state ≠ .closed →
          exec (.resume q.port tag ch) s = .next (s.answered q.port tag 0x21 .state [])) ∧
        (s.canTake q.port (commandFrame 0x40 tag [ch]) = true →
          ((s.chan c).state = .opening ∨ (s.chan c).state = .closing →
            exec (.renew q.port tag ch) s = .next (s.answered q.port tag 0x40 .state [])) ∧
          ((s.chan c).state = .keying ∨ (s.chan c).state = .active → (s.chan c).renewal ≠ .idle →
            exec (.renew q.port tag ch) s = .next (s.answered q.port tag 0x40 .busy [])))))

/-! ## Shop channels -/

/-- OPEN admitted: the record is filled with the values given and those of an opened channel, every other record and block
is unchanged, and the answer is DONE. OPEN refused, in the order of its checks: RANGE for a channel id, master slot,
serving port or shop code out of range, STATE for a channel that is not CLOSED, NO_MASTER for an EMPTY slot; nothing
else changes (R10). -/
def Obligations.OpenFillsTheRecordOrIsRefused : Prop :=
  (∀ (s : State) (q o : Service) (tag ch slot serving : Byte) (shop : BitVec 32) (c : Fin 48) (m : Fin 4)
      (key : Block) (check : BitVec 24),
      ch.toNat = c.val → slot.toNat = m.val → serving = portByte o.port → shop ≠ 0 →
      s.canTake q.port (commandFrame 0x01 tag (ch :: bigEndian 4 shop.toNat ++ [slot, serving])) = true →
      s.startup = false → (s.chan c).state = .closed → s.masters[m] = .loaded key check →
      exec (.openChannel q.port tag ch shop slot serving) s =
        .next (((s.taken q.port).setChan c
          { state := .opening, serving := some o, master := some m, shop := some shop, current := none, previous := none,
            pendingEntry := none, base := none, renewal := .idle, wanted := none, holdOff := 0, offerTimer := none,
            renewRetries := 0, sync := .sync, syncLoss := 0, challenge := none, resyncRetries := 0, resyncTimer := none,
            held := false, outbound := [], pendingCells := [], preset := 8388608, ageLimit := 0,
            quality :=
              { counts := ⟨0, 0, 0, 0, 0, 0, 0, 0, 0⟩, last := ⟨0, 0, 0, 0, 0, 0, 0, 0, 0⟩, lastScore := none,
                smoothed := 1000, low := false, storm := false, silenceRunning := false, silence := 0 } }).respond
          q.port tag 0x01 .done [])) ∧
  (∀ (s : State) (q : Service) (tag ch slot serving : Byte) (shop : BitVec 32),
      s.canTake q.port (commandFrame 0x01 tag (ch :: bigEndian 4 shop.toNat ++ [slot, serving])) = true →
      s.startup = false →
      (48 ≤ ch.toNat ∨ 4 ≤ slot.toNat ∨ (serving ≠ 1 ∧ serving ≠ 2) ∨ shop = 0 →
        exec (.openChannel q.port tag ch shop slot serving) s = .next (s.answered q.port tag 0x01 .range [])) ∧
      (∀ (c : Fin 48) (m : Fin 4), ch.toNat = c.val → slot.toNat = m.val → serving = 1 ∨ serving = 2 → shop ≠ 0 →
        ((s.chan c).state ≠ .closed →
          exec (.openChannel q.port tag ch shop slot serving) s = .next (s.answered q.port tag 0x01 .state [])) ∧
        ((s.chan c).state = .closed → s.masters[m] = .empty →
          exec (.openChannel q.port tag ch shop slot serving) s = .next (s.answered q.port tag 0x01 .noMaster []))))

/-- CLOSE admitted: after adoption by the calling port, if it is not the serving port, the teardown removes the channel's
delivered cells and everything in flight, the channel is CLOSING with its silence timer stopped, and the answer is DONE
with the outbound and the inbound count (R12, R13, R147). The state it leaves is given whole. -/
def Obligations.CloseTearsDown : Prop :=
  ∀ (s : State) (q : Service) (tag ch : Byte) (c : Fin 48),
    ch.toNat = c.val → s.canTake q.port (commandFrame 0x02 tag [ch]) = true → s.startup = false →
    (s.chan c).state = .opening ∨ (s.chan c).state = .keying ∨ (s.chan c).state = .active → s.mayCommand q c →
    let t := (s.taken q.port).adoptFor c q
    exec (.closeChannel q.port tag ch) s =
      .next (((t.setInbound q ((t.inbound q).filter (fun x => decide (x.channel ≠ c)))).setChan c
        { t.chan c with
          state := .closing, outbound := [], pendingCells := [], renewal := .idle, wanted := none, holdOff := 0,
          offerTimer := none, renewRetries := 0, challenge := none, resyncRetries := 0, resyncTimer := none,
          current := none, previous := none, pendingEntry := none, base := none, held := false, sync := .sync,
          syncLoss := 0, quality := { (t.chan c).quality with silenceRunning := false } }).respond q.port tag 0x02 .done
        [BitVec.ofNat 8 (t.chan c).outbound.length,
          BitVec.ofNat 8 ((t.inbound q).filter (fun x => decide (x.channel = c))).length])

/-- SET_CHANNEL admitted: after adoption, both parameters are clamped and written, the values used are returned with DONE
or ADJUSTED, and the AGE trigger compares the key age with the new limit (R8, R16, R102). -/
def Obligations.SetChannelWritesClampedParameters : Prop :=
  ∀ (s : State) (q : Service) (tag ch : Byte) (preset limit : BitVec 32) (c : Fin 48),
    ch.toNat = c.val →
    s.canTake q.port (commandFrame 0x03 tag (ch :: bigEndian 4 preset.toNat ++ bigEndian 4 limit.toNat)) = true →
    s.startup = false → (s.chan c).state ≠ .closed → s.mayCommand q c →
    let usedPreset := if preset.toNat < 1024 then 1024 else if 16000000 < preset.toNat then 16000000 else preset.toNat
    let usedLimit :=
      if limit.toNat ≤ 127 then 0
      else if limit.toNat ≤ 255 then 256
      else if 4000000000 < limit.toNat then 4000000000
      else limit.toNat
    let t := ((s.taken q.port).adoptFor c q).modChan c (fun r => { r with preset := usedPreset, ageLimit := usedLimit })
    exec (.setChannel q.port tag ch preset limit) s =
      .next ((match (t.chan c).current with
          | some e => if usedLimit ≠ 0 ∧ usedLimit ≤ e.age then t.trigger c .age else t
          | none => t).respond q.port tag 0x03
        (if usedPreset = preset.toNat ∧ usedLimit = limit.toNat then .done else .adjusted)
        (bigEndian 3 usedPreset ++ bigEndian 4 usedLimit))

/-- SEND admitted: after adoption, one cell of the data bytes followed by zero bytes joins the tail of the outbound queue,
and the answer is DONE with the new number of cells (R17, R18). -/
def Obligations.SendQueuesOneCell : Prop :=
  ∀ (s : State) (q : Service) (tag ch : Byte) (data : List Byte) (c : Fin 48),
    ch.toNat = c.val → s.canTake q.port (commandFrame 0x04 tag (ch :: data)) = true → s.startup = false →
    1 ≤ data.length → data.length ≤ 48 →
    (s.chan c).state = .opening ∨ (s.chan c).state = .keying ∨ (s.chan c).state = .active → s.mayCommand q c →
    (s.chan c).outbound.length < 8 →
    exec (.send q.port tag ch data) s =
      .next ((((s.taken q.port).adoptFor c q).modChan c (fun r =>
          { r with outbound := r.outbound ++
            [{ length := data.length,
               payload := BitVec.ofNat 384 (ofBigEndian (data ++ List.replicate (48 - data.length) 0)) }] })).respond
        q.port tag 0x04 .done [BitVec.ofNat 8 ((s.chan c).outbound.length + 1)])

/-- RESUME admitted on a SUSPENDED channel: after adoption, the sync state becomes SYNC, nothing else changes, and the
answer is DONE (R80). -/
def Obligations.ResumeReturnsToSync : Prop :=
  ∀ (s : State) (q : Service) (tag ch : Byte) (c : Fin 48),
    ch.toNat = c.val → s.canTake q.port (commandFrame 0x21 tag [ch]) = true → s.startup = false →
    (s.chan c).state ≠ .closed → s.mayCommand q c → (s.chan c).sync = .suspended →
    exec (.resume q.port tag ch) s =
      .next ((((s.taken q.port).adoptFor c q).modChan c (fun r => { r with sync := .sync })).respond
        q.port tag 0x21 .done [])

/-- RENEW admitted on a KEYING or ACTIVE channel in IDLE: after adoption, a renewal starts at once whatever the hold-off,
with cause COMMAND, the next epoch and a freshly drawn part nonce, its OFFER queued; the new epoch is returned with DONE
(R98, R100, R101, R103, R105, R121). The nonce is whatever value the source holds. -/
def Obligations.RenewStartsARenewal : Prop :=
  ∀ (s : State) (q : Service) (tag ch : Byte) (c : Fin 48),
    ch.toNat = c.val → s.canTake q.port (commandFrame 0x40 tag [ch]) = true → s.startup = false →
    (s.chan c).state = .keying ∨ (s.chan c).state = .active → s.mayCommand q c → (s.chan c).renewal = .idle →
    let epoch : BitVec 8 :=
      match (s.chan c).current with
      | some e => if e.key.epoch = 255 then 1 else e.key.epoch + 1
      | none => 1
    exec (.renew q.port tag ch) s =
      .next (((((s.taken q.port).adoptFor c q).modChan c (fun r =>
          { r with
            wanted := some .command
            renewal := .offered
            pendingEntry := some { epoch := epoch, nonce := s.nextNonce, keys := none }
            pendingCells := enqueue (.offer epoch s.nextNonce) r.pendingCells
            renewRetries := s.renewalParams.retryLimit
            offerTimer := none })).afterDraw).respond q.port tag 0x40 .done [epoch])

/-- READ_CHANNEL and READ_QUALITY from either service port, for any channel in any state: nothing changes, no adoption is
made, and the answer is DONE with the fields of R23 and R152 in their order, laid out as R166 gives; RANGE for a channel id
of 48 or above. That a silence timer is one byte, 1 while it runs and 0 while it is stopped, and then its count, is the
model's reading (log entry 15). -/
def Obligations.ChannelReadsChangeNothing : Prop :=
  ∀ (s : State) (q : Service) (tag ch : Byte), s.startup = false →
    (s.canTake q.port (commandFrame 0x05 tag [ch]) = true →
      (48 ≤ ch.toNat → exec (.readChannel q.port tag ch) s = .next (s.answered q.port tag 0x05 .range [])) ∧
      (∀ c : Fin 48, ch.toNat = c.val →
        let r := s.chan c
        let kindIn := fun f : Family =>
          match r.pendingCells.find? (fun x => decide (x.family = f)) with
          | none => (0 : Byte)
          | some (.offer _ _) => 8
          | some (.switch _) => 10
          | some (.resync _) => 12
          | some (.mark _) => 13
        let fields : List Byte :=
          ([match r.state with | .closed => 0 | .opening => 1 | .keying => 2 | .active => 3 | .closing => 4,
            match r.serving with | none => 0 | some .a => 1 | some .b => 2] : List Byte) ++
          (match r.master with | some m => [1, BitVec.ofNat 8 m.val] | none => [0, 0]) ++
          (match r.shop with | some n => 1 :: bigEndian 4 n.toNat | none => [0, 0, 0, 0, 0]) ++
          (match r.current with
            | some e => 1 :: e.key.epoch :: bigEndian 3 e.nextTx ++ bigEndian 4 e.age
            | none => [0, 0, 0, 0, 0, 0, 0, 0, 0]) ++
          (match r.previous with | some p => [1, p.key.epoch, BitVec.ofNat 8 p.cutover] | none => [0, 0, 0]) ++
          (match r.pendingEntry with | some p => [1, p.epoch, if p.keys.isSome then 1 else 0] | none => [0, 0, 0]) ++
          ([match r.renewal with | .idle => 0 | .offered => 1 | .agreed => 2 | .cutover => 3,
            match r.wanted with
            | none => 0
            | some .initial => 1
            | some .preset => 2
            | some .age => 3
            | some .shop => 4
            | some .command => 5
            | some .resync => 6
            | some .storm => 7] : List Byte) ++
          bigEndian 2 r.holdOff ++
          ([match r.sync with | .sync => 0 | .hunt => 1 | .suspended => 2 | .quarantine => 3, BitVec.ofNat 8 r.syncLoss,
            if r.held then 1 else 0, BitVec.ofNat 8 r.outbound.length,
            kindIn .renewal, kindIn .challenge, kindIn .answer] : List Byte) ++
          bigEndian 3 r.preset ++ bigEndian 4 r.ageLimit
        fields.length = 42 ∧
          exec (.readChannel q.port tag ch) s = .next (s.answered q.port tag 0x05 .done fields))) ∧
    (s.canTake q.port (commandFrame 0x50 tag [ch]) = true →
      (48 ≤ ch.toNat → exec (.readQuality q.port tag ch) s = .next (s.answered q.port tag 0x50 .range [])) ∧
      (∀ c : Fin 48, ch.toNat = c.val →
        let v := (s.chan c).quality
        exec (.readQuality q.port tag ch) s =
          .next (s.answered q.port tag 0x50 .done
            ((match v.lastScore with | some n => 1 :: bigEndian 2 n | none => [0, 0, 0]) ++ bigEndian 2 v.smoothed ++
              [if v.low then 1 else 0, if v.storm then 1 else 0, if v.silenceRunning then 1 else 0] ++
              bigEndian 2 v.silence ++
              bigEndian 2 v.last.g ++ bigEndian 2 v.last.t ++ bigEndian 2 v.last.j ++ bigEndian 2 v.last.e ++
              bigEndian 2 v.last.x ++ bigEndian 2 v.last.r ++ bigEndian 2 v.last.d ++ bigEndian 2 v.last.withheld ++
              bigEndian 2 v.last.idle ++
              bigEndian 2 v.counts.g ++ bigEndian 2 v.counts.t ++ bigEndian 2 v.counts.j ++ bigEndian 2 v.counts.e ++
              bigEndian 2 v.counts.x ++ bigEndian 2 v.counts.r ++ bigEndian 2 v.counts.d ++
              bigEndian 2 v.counts.withheld ++ bigEndian 2 v.counts.idle ++
              bigEndian 2 s.periodTimer ++ bigEndian 2 s.qualityParams.period))))

/-! ## Parameters, slots and status -/

/-- SET_SYNC, SET_RENEWAL, SET_PRESENCE and SET_QUALITY clamp each value into its own range, write them in force at once,
return the values used with DONE or ADJUSTED, and change nothing else; SET_QUALITY with the clamped low at or above
the clamped high is refused RELATION and writes nothing (R86, R99, R122, R150, R174). -/
def Obligations.ParameterCommandsClampOrRefuse : Prop :=
  (∀ (s : State) (q : Service) (tag threshold retries window : Byte) (jump tOffer period : BitVec 16), s.startup = false →
      (s.canTake q.port (commandFrame 0x22 tag (bigEndian 2 jump.toNat ++ [threshold])) = true →
        let j := max 64 jump.toNat
        let h := max 1 (min 15 threshold.toNat)
        exec (.setSync q.port tag jump threshold) s =
          .next ({ s.taken q.port with receive := { jump := j, threshold := h } }.respond q.port tag 0x22
            (if j = jump.toNat ∧ h = threshold.toNat then .done else .adjusted) (bigEndian 2 j ++ [BitVec.ofNat 8 h]))) ∧
      (s.canTake q.port (commandFrame 0x41 tag (bigEndian 2 tOffer.toNat ++ [retries, window])) = true →
        let o := max 4 (min 1023 tOffer.toNat)
        let r := min 7 retries.toNat
        let w := max 1 window.toNat
        exec (.setRenewal q.port tag tOffer retries window) s =
          .next ({ s.taken q.port with renewalParams := { tOffer := o, retryLimit := r, cutover := w } }.respond
            q.port tag 0x41 (if o = tOffer.toNat ∧ r = retries.toNat ∧ w = window.toNat then .done else .adjusted)
            (bigEndian 2 o ++ [BitVec.ofNat 8 r, BitVec.ofNat 8 w]))) ∧
      (s.canTake q.port (commandFrame 0x74 tag (bigEndian 2 period.toNat)) = true →
        let u := max 16 period.toNat
        exec (.setPresence q.port tag period) s =
          .next ({ s.taken q.port with presencePeriod := u }.respond q.port tag 0x74
            (if u = period.toNat then .done else .adjusted) (bigEndian 2 u)))) ∧
  (∀ (s : State) (q : Service) (tag storm : Byte) (period low high silence : BitVec 16), s.startup = false →
      s.canTake q.port (commandFrame 0x51 tag (bigEndian 2 period.toNat ++ bigEndian 2 low.toNat ++
        bigEndian 2 high.toNat ++ storm :: bigEndian 2 silence.toNat)) = true →
      let p := max 16 period.toNat
      let lo := min 1000 low.toNat
      let hi := min 1000 high.toNat
      let st := max 1 storm.toNat
      let si := max 16 silence.toNat
      (hi ≤ lo → exec (.setQuality q.port tag period low high storm silence) s =
        .next (s.answered q.port tag 0x51 .relation [])) ∧
      (lo < hi → exec (.setQuality q.port tag period low high storm silence) s =
        .next ({ s.taken q.port with
            qualityParams := { period := p, low := lo, high := hi, stormLimit := st, silenceLimit := si } }.respond
          q.port tag 0x51
          (if p = period.toNat ∧ lo = low.toNat ∧ hi = high.toNat ∧ st = storm.toNat ∧ si = silence.toNat then .done
            else .adjusted)
          (bigEndian 2 p ++ bigEndian 2 lo ++ bigEndian 2 hi ++ BitVec.ofNat 8 st :: bigEndian 2 si))))

/-- SET_FRAME clamps F and the loss beats, then BEAT_LEN, then the slip limit into 1 to the clamped BEAT_LEN / 4; the four
values become the pending set, whatever set was pending, and are returned with DONE or ADJUSTED. ASSIGN_SLOT writes
the given value as the slot's pending value, whatever was pending, and returns it with the entry in force and DONE;
RANGE for a slot of 64 or above, a kind that is none of the three, or a DATA channel of 48 or above. What is in force
is unchanged, and so is everything else (R39, R40). -/
def Obligations.SlotCommandsWritePendingValues : Prop :=
  (∀ (s : State) (q : Service) (tag : Byte) (frame beatLen slip loss : BitVec 16), s.startup = false →
      s.canTake q.port (commandFrame 0x11 tag (bigEndian 2 frame.toNat ++ bigEndian 2 beatLen.toNat ++
        bigEndian 2 slip.toNat ++ bigEndian 2 loss.toNat)) = true →
      let f := max 8 (min 64 frame.toNat)
      let b := max 256 beatLen.toNat
      let sl := max 1 (min (b / 4) slip.toNat)
      let lo := max 2 (min 15 loss.toNat)
      exec (.setFrame q.port tag frame beatLen slip loss) s =
        .next ({ s.taken q.port with
            sequencer := { s.sequencer with pendingFrame := some { slots := f, beatLen := b, slip := sl, loss := lo } } }.respond
          q.port tag 0x11
          (if f = frame.toNat ∧ b = beatLen.toNat ∧ sl = slip.toNat ∧ lo = loss.toNat then .done else .adjusted)
          (BitVec.ofNat 8 f :: bigEndian 2 b ++ bigEndian 2 sl ++ [BitVec.ofNat 8 lo]))) ∧
  (∀ (s : State) (q : Service) (tag slot kind ch : Byte), s.startup = false →
      s.canTake q.port (commandFrame 0x10 tag [slot, kind, ch]) = true →
      (64 ≤ slot.toNat ∨ 3 ≤ kind.toNat ∨ (kind = 1 ∧ 48 ≤ ch.toNat) →
        exec (.assignSlot q.port tag slot kind ch) s = .next (s.answered q.port tag 0x10 .range [])) ∧
      (∀ (n : Fin 64) (k : SlotKind), slot.toNat = n.val →
        (match k with
          | .unused => kind = 0
          | .data c => kind = 1 ∧ ch.toNat = c.val
          | .control => kind = 2) →
        exec (.assignSlot q.port tag slot kind ch) s =
          .next ({ s.taken q.port with
              sequencer := { s.sequencer with map := s.sequencer.map.set n { s.sequencer.map[n] with pending := some k } } }.respond
            q.port tag 0x10 .done
            ((match s.sequencer.map[n].inForce with
              | .unused => [0, 0]
              | .data c => [1, BitVec.ofNat 8 c.val]
              | .control => [2, 0]) ++ [1, kind, match k with | .data _ => ch | _ => 0]))))

/-- READ_TRUNK returns the timebase and the frame parameters in force and pending, READ_SLOT one slot map entry, each with
DONE and with nothing changed; READ_SLOT of a slot of 64 or above is refused RANGE (R46, R47). -/
def Obligations.TrunkReadsChangeNothing : Prop :=
  ∀ (s : State) (q : Service) (tag slot : Byte), s.startup = false →
    (s.canTake q.port (commandFrame 0x12 tag []) = true →
      let f := s.sequencer.frame
      let g := s.sequencer.pendingFrame.getD { slots := 0, beatLen := 0, slip := 0, loss := 0 }
      exec (.readTrunk q.port tag) s =
        .next (s.answered q.port tag 0x12 .done
          ((match s.timebase.trunk with | .lost => 0 | .acquiring => 1 | .locked => 2) ::
            BitVec.ofNat 8 s.timebase.acquire :: BitVec.ofNat 8 s.timebase.beats ::
            bigEndian 2 s.timebase.deviation ++ bigEndian 4 s.timebase.tick.toNat ++
            (BitVec.ofNat 8 f.slots :: bigEndian 2 f.beatLen ++ bigEndian 2 f.slip ++ [BitVec.ofNat 8 f.loss]) ++
            (if s.sequencer.pendingFrame.isSome then 1 else 0) ::
            (BitVec.ofNat 8 g.slots :: bigEndian 2 g.beatLen ++ bigEndian 2 g.slip ++ [BitVec.ofNat 8 g.loss])))) ∧
    (s.canTake q.port (commandFrame 0x13 tag [slot]) = true →
      (64 ≤ slot.toNat → exec (.readSlot q.port tag slot) s = .next (s.answered q.port tag 0x13 .range [])) ∧
      (∀ n : Fin 64, slot.toNat = n.val →
        exec (.readSlot q.port tag slot) s =
          .next (s.answered q.port tag 0x13 .done
            ((match s.sequencer.map[n].inForce with
              | .unused => [0, 0]
              | .data c => [1, BitVec.ofNat 8 c.val]
              | .control => [2, 0]) ++
              (match s.sequencer.map[n].pending with
                | none => [0, 0, 0]
                | some .unused => [1, 0, 0]
                | some (.data c) => [1, 1, BitVec.ofNat 8 c.val]
                | some .control => [1, 2, 0]) ++ [if n.val < s.sequencer.frame.slots then 1 else 0]))))

/-- STATUS, from every port and also while the startup condition is set: nothing changes, and the 39 bytes of R179 are
returned with DONE. That these bytes hold no mask is the model's choice between two rules that contradict each other: R179's
list is followed, and R178's words that STATUS reports port K's mask bit 0 are not (log entry 22). -/
def Obligations.StatusReturnsThePartWideState : Prop :=
  ∀ (s : State) (p : Port) (tag : Byte), s.canTake p (commandFrame 0x70 tag []) = true →
    let slot := fun m : Fin 4 =>
      match s.masters[m] with
      | .empty => ([0, 0, 0, 0] : List Byte)
      | .loaded _ v => 1 :: bigEndian 3 v.toNat
    let bytes : List Byte :=
      (if s.startup then 1 else 0) :: (match s.timebase.trunk with | .lost => 0 | .acquiring => 1 | .locked => 2) ::
        bigEndian 4 s.timebase.tick.toNat ++
        [if s.portA.present then 1 else 0, if s.portB.present then 1 else 0, if s.portK.present then 1 else 0] ++
        slot 0 ++ slot 1 ++ slot 2 ++ slot 3 ++ bigEndian 2 s.log.lost ++ bigEndian 2 s.stray ++
        bigEndian 2 s.portA.framing ++ bigEndian 2 s.portB.framing ++ bigEndian 2 s.portK.framing ++
        bigEndian 4 s.log.next.toNat
    bytes.length = 39 ∧ exec (.status p tag) s = .next (s.answered p tag 0x70 .done bytes)

/-- CLEAR_STARTUP clears the startup condition, from every port and also while it is set; PRESENT changes nothing when it
is taken; SET_ATTENTION sets the calling port's mask, or is refused RANGE with any of bits 3 to 7 set (R172, R175, R178).
Each is answered DONE otherwise, and nothing else changes. -/
def Obligations.PortCommandsComplete : Prop :=
  ∀ (s : State) (p : Port) (tag mask : Byte),
    (s.canTake p (commandFrame 0x71 tag []) = true →
      exec (.clearStartup p tag) s = .next ({ s.taken p with startup := false }.respond p tag 0x71 .done [])) ∧
    (s.startup = false → s.canTake p (commandFrame 0x72 tag []) = true →
      exec (.present p tag) s = .next (s.answered p tag 0x72 .done [])) ∧
    (s.startup = false → s.canTake p (commandFrame 0x73 tag [mask]) = true →
      (mask &&& 0xF8 = 0 →
        exec (.setAttention p tag mask) s =
          .next (((s.taken p).setLink p { (s.taken p).link p with mask := mask }).respond p tag 0x73 .done [mask])) ∧
      (mask &&& 0xF8 ≠ 0 → exec (.setAttention p tag mask) s = .next (s.answered p tag 0x73 .range [])))

/-- The attention line of a port is asserted exactly while a condition that its mask enables holds: INBOUND (bit 0, ports
A and B), FAULT (bit 1), STARTUP (bit 2) (R162, R178). -/
def Obligations.AttentionFollowsConditionsAndMask : Prop :=
  ∀ (s : State) (p : Port), s.attention p = true ↔
    ((s.link p).mask.getLsbD 0 = true ∧ ((p = .a ∧ s.inboundA ≠ []) ∨ (p = .b ∧ s.inboundB ≠ []))) ∨
    ((s.link p).mask.getLsbD 1 = true ∧
      ∃ r ∈ s.log.records, (r.number.toNat + 4294967296 - (s.link p).cursor.toNat) % 4294967296 < 2147483648) ∨
    ((s.link p).mask.getLsbD 2 = true ∧ s.startup = true)

/-! ## The master key store -/

/-- LOAD_MASTER from port K: RANGE above slot 3, IN_USE for a LOADED slot that a channel is bound to, otherwise the slot
holds the key and its check value, the prior state and the check value are returned with DONE, and nothing else changes
(R60, R90, R91). -/
def Obligations.LoadMasterLoadsTheSlot : Prop :=
  ∀ (s : State) (tag slot : Byte) (key : Block), s.startup = false →
    s.canTake .k (commandFrame 0x30 tag (slot :: bigEndian 16 key.toNat)) = true →
    (4 ≤ slot.toNat → exec (.loadMaster .k tag slot key) s = .next (s.answered .k tag 0x30 .range [])) ∧
    (∀ m : Fin 4, slot.toNat = m.val →
      let check : BitVec 24 := (Config.blockPerm key 0).extractLsb' 104 24
      ((∃ c, (s.chan c).state ≠ .closed ∧ (s.chan c).master = some m) → s.masters[m] ≠ .empty →
        exec (.loadMaster .k tag slot key) s = .next (s.answered .k tag 0x30 .inUse [])) ∧
      ((∀ c, (s.chan c).state = .closed ∨ (s.chan c).master ≠ some m) ∨ s.masters[m] = .empty →
        exec (.loadMaster .k tag slot key) s =
          .next ({ s.taken .k with masters := s.masters.set m (.loaded key check) }.respond .k tag 0x30 .done
            ((match s.masters[m] with | .empty => 0 | .loaded _ _ => 1) :: bigEndian 3 check.toNat))))

/-- ERASE_MASTER from port K: RANGE above slot 3; of an EMPTY slot DONE with 0, 0 and no change; of a LOADED slot, every
bound channel gets its closed values and its delivered cells leave its serving port's queue, every other record and slot
is unchanged, the slot is EMPTY, one MASTER_ERASED fault with detail slot × 256 + n is raised, and the answer is
DONE with 1 and n (R15, R92, R93, R94). -/
def Obligations.EraseMasterClosesBoundChannels : Prop :=
  ∀ (s : State) (tag slot : Byte), s.startup = false → s.canTake .k (commandFrame 0x31 tag [slot]) = true →
    (4 ≤ slot.toNat → exec (.eraseMaster .k tag slot) s = .next (s.answered .k tag 0x31 .range [])) ∧
    (∀ m : Fin 4, slot.toNat = m.val →
      (s.masters[m] = .empty → exec (.eraseMaster .k tag slot) s = .next (s.answered .k tag 0x31 .done [0, 0])) ∧
      (s.masters[m] ≠ .empty →
        let bound := fun c : Fin 48 => decide ((s.chan c).state ≠ .closed ∧ (s.chan c).master = some m)
        let n := ((List.finRange 48).filter bound).length
        let own := fun (q : Service) (x : Delivered) =>
          bound x.channel && decide ((s.chan x.channel).serving = some q)
        ∃ t, exec (.eraseMaster .k tag slot) s = .next t ∧
          (∀ c, t.chan c = if bound c then Channel.closedValues else s.chan c) ∧
          t.masters = s.masters.set m .empty ∧
          (∀ q, t.inbound q = (s.inbound q).filter (fun x => !own q x)) ∧
          t.log = ((s.taken .k).raise .masterErased none (some .k) (m.val * 256 + n)).log ∧
          t = { (s.answered .k tag 0x31 .done [1, BitVec.ofNat 8 n]) with
            channels := t.channels, masters := t.masters, inboundA := t.inboundA, inboundB := t.inboundB,
            log := t.log }))

/-! ## Delivered cells and adoption -/

/-- TAKE from port A or B removes the oldest cell of the calling port's own queue and returns it with the number of cells
left; an empty queue answers EMPTY; nothing else changes, no serving port among them. From port K it is refused PRIVILEGE.
The queue is the one that the port's INBOUND condition reports (R84). -/
def Obligations.TakeRemovesTheOldestCell : Prop :=
  (∀ (s : State) (q : Service) (tag : Byte), s.startup = false →
    s.canTake q.port (commandFrame 0x20 tag []) = true →
    (s.inbound q = [] → exec (.take q.port tag) s = .next (s.answered q.port tag 0x20 .empty [])) ∧
    (∀ (x : Delivered) (rest : List Delivered), s.inbound q = x :: rest →
      exec (.take q.port tag) s =
        .next (((s.taken q.port).setInbound q rest).respond q.port tag 0x20 .done
          (BitVec.ofNat 8 x.channel.val :: x.epoch :: bigEndian 3 x.sequence ++ BitVec.ofNat 8 x.data.length :: x.data ++
            [BitVec.ofNat 8 rest.length])))) ∧
  (∀ (s : State) (tag : Byte), s.canTake .k (commandFrame 0x20 tag []) = true →
    exec (.take .k tag) s = .next (s.answered .k tag 0x20 .privilege [])) ∧
  (∀ (s : State) (q : Service), s.inboundCondition q.port = true ↔ s.inbound q ≠ [])

/-- ADOPT of one channel: STATE when it is CLOSED; DONE with 0, 0, 0 and no change when the calling port serves it;
OWNER_PRESENT while the other service port is PRESENT; otherwise its cells move to the tail of the calling port's queue
in order while that holds fewer than 32, the rest are dropped with D counted and one INBOUND_OVERRUN raised, the record
changes in its serving port and D count only, and the answer is DONE with 1 and the two numbers. The adoption that an
admitted channel command makes (R9) is the same (R24, R176, R177). -/
def Obligations.AdoptTakesOneChannel : Prop :=
  ∀ (s : State) (q : Service) (tag ch : Byte), s.startup = false → s.canTake q.port (commandFrame 0x75 tag [ch]) = true →
    (48 ≤ ch.toNat → ch.toNat ≤ 254 → exec (.adopt q.port tag ch) s = .next (s.answered q.port tag 0x75 .range [])) ∧
    (∀ c : Fin 48, ch.toNat = c.val →
      ((s.chan c).state = .closed → exec (.adopt q.port tag ch) s = .next (s.answered q.port tag 0x75 .state [])) ∧
      ((s.chan c).state ≠ .closed → (s.chan c).serving = some q →
        exec (.adopt q.port tag ch) s = .next (s.answered q.port tag 0x75 .done [0, 0, 0]) ∧
          (s.taken q.port).adoptFor c q = s.taken q.port) ∧
      ((s.chan c).state ≠ .closed → (s.chan c).serving ≠ some q →
        ((s.link q.other.port).present = true →
          exec (.adopt q.port tag ch) s = .next (s.answered q.port tag 0x75 .ownerPresent [])) ∧
        ((s.link q.other.port).present = false →
          let leaving := (s.inbound q.other).filter (fun x => decide (x.channel = c))
          let room := 32 - (s.inbound q).length
          let dropped := leaving.length - room
          let t := (((s.taken q.port).setInbound q.other
              ((s.inbound q.other).filter (fun x => decide (x.channel ≠ c)))).setInbound q
              (s.inbound q ++ leaving.take room)).modChan c (fun r =>
                { r with
                  serving := some q
                  quality := { r.quality with
                    counts := { r.quality.counts with d := min 65535 (r.quality.counts.d + dropped) } } })
          let adopted := if dropped = 0 then t else t.raise .inboundOverrun (some c) (some q.port) dropped
          exec (.adopt q.port tag ch) s =
            .next (adopted.respond q.port tag 0x75 .done
              [1, BitVec.ofNat 8 (min leaving.length room), BitVec.ofNat 8 dropped]) ∧
          (s.taken q.port).adoptFor c q = adopted)))

/-- ADOPT of all: OWNER_PRESENT while the other service port is PRESENT, whatever it serves; otherwise every channel that
is not CLOSED and that it serves has the calling port as its serving port, the cells of those channels move in their
order across channels while the calling port's queue holds fewer than 32, the rest are dropped with D counted for their
channels and one INBOUND_OVERRUN raised for each such channel, in ascending order of channel id and all of one event, every
other record is unchanged, and the answer is DONE with the three numbers (R156, R176, R177). -/
def Obligations.AdoptTakesEveryChannel : Prop :=
  ∀ (s : State) (q : Service) (tag : Byte), s.startup = false → s.canTake q.port (commandFrame 0x75 tag [255]) = true →
    ((s.link q.other.port).present = true →
      exec (.adopt q.port tag 255) s = .next (s.answered q.port tag 0x75 .ownerPresent [])) ∧
    ((s.link q.other.port).present = false →
      let adopted := fun c : Fin 48 => decide ((s.chan c).state ≠ .closed ∧ (s.chan c).serving = some q.other)
      let leaving := (s.inbound q.other).filter (fun x => adopted x.channel)
      let room := 32 - (s.inbound q).length
      let dropped := leaving.drop room
      let lost := fun c : Fin 48 => (dropped.filter (fun x => decide (x.channel = c))).length
      ∃ t, exec (.adopt q.port tag 255) s = .next t ∧
        (∀ c, t.chan c =
          if adopted c then
            { s.chan c with
              serving := some q
              quality := { (s.chan c).quality with
                counts := { (s.chan c).quality.counts with d := min 65535 ((s.chan c).quality.counts.d + lost c) } } }
          else s.chan c) ∧
        t.inbound q = s.inbound q ++ leaving.take room ∧
        t.inbound q.other = (s.inbound q.other).filter (fun x => !adopted x.channel) ∧
        t.log = (((List.finRange 48).filter (fun c => adopted c && decide (lost c ≠ 0))).foldl
          (fun u c => (u.inEvent s.log.event).raise .inboundOverrun (some c) (some q.port) (lost c))
          (s.taken q.port)).log ∧
        t = { (s.answered q.port tag 0x75 .done
            [BitVec.ofNat 8 ((List.finRange 48).filter adopted).length, BitVec.ofNat 8 (min leaving.length room),
              BitVec.ofNat 8 dropped.length]) with
          channels := t.channels, inboundA := t.inboundA, inboundB := t.inboundB, log := t.log })

/-! ## The fault log -/

/-- READ_FAULT from every port: the oldest record at or beyond the calling port's cursor is returned, its kind as the code of
R153, with the skipped count and the number of records left unread, and the cursor goes just past it; with none there,
EMPTY and no change (R153, R155, R160). -/
def Obligations.ReadFaultAdvancesTheCursor : Prop :=
  ∀ (s : State) (p : Port) (tag : Byte), s.startup = false → s.canTake p (commandFrame 0x60 tag []) = true →
    let cursor := (s.link p).cursor
    let unreadAt := fun (c : BitVec 32) (r : FaultRecord) =>
      decide ((r.number.toNat + 4294967296 - c.toNat) % 4294967296 < 2147483648)
    ((∀ r ∈ s.log.records, unreadAt cursor r = false) →
      exec (.readFault p tag) s = .next (s.answered p tag 0x60 .empty [])) ∧
    (∀ (before after : List FaultRecord) (r : FaultRecord), s.log.records = before ++ r :: after →
      (∀ b ∈ before, unreadAt cursor b = false) → unreadAt cursor r = true →
      exec (.readFault p tag) s =
        .next (((s.taken p).setLink p { (s.taken p).link p with cursor := r.number + 1 }).respond p tag 0x60 .done
          (bigEndian 4 r.number.toNat ++
            ([match r.kind with
              | .trunkLost => 1
              | .trunkLocked => 2
              | .trunkSlip => 3
              | .trunkFraming => 4
              | .portAbsent => 5
              | .portReturned => 6
              | .hardLimit => 7
              | .renewFail => 8
              | .resyncFail => 9
              | .syncLost => 10
              | .tagStorm => 11
              | .qualityLow => 12
              | .qualityOk => 13
              | .silent => 14
              | .inboundOverrun => 15
              | .masterErased => 16
              | .lost => 17] : List Byte) ++
            (match r.channel with | some c => [1, BitVec.ofNat 8 c.val] | none => [0, 0]) ++
            ([match r.port with | none => 0 | some .a => 1 | some .b => 2 | some .k => 3] : List Byte) ++
            bigEndian 4 r.stamp.toNat ++ bigEndian 2 r.detail.toNat ++ bigEndian 2 r.repeats ++
            bigEndian 2 (min 65535 ((r.number.toNat + 4294967296 - cursor.toNat) % 4294967296)) ++
            [BitVec.ofNat 8 (s.log.records.filter (unreadAt (r.number + 1))).length])))

/-- A fault folds exactly when, as the log takes it, the lost counter is 0, the log is not empty, the newest record is like
it and not LOST, and no PRESENT port has read that record; the record's repeat count then rises, saturating, its stamp and
detail become the fault's, and nothing else of the log changes (R156, R157). That R157's condition on the PRESENT ports
holds as it stands, where R163 and section 10.5 say that the records a PRESENT port has not read cannot fold, is the
model's choice between them (log entry 26). -/
def Obligations.RepeatsFoldIntoTheNewestRecord : Prop :=
  (∀ (log : FaultLog) (cursors : List (BitVec 32)) (f : FaultReport), log.records = [] → log.folds cursors f = false) ∧
  (∀ (s : State) (c : BitVec 32),
    c ∈ presentCursors s.link ↔ ∃ p : Port, (s.link p).present = true ∧ (s.link p).cursor = c) ∧
  ∀ (log : FaultLog) (cursors : List (BitVec 32)) (stamp : BitVec 32) (f : FaultReport) (front : List FaultRecord)
    (r : FaultRecord), log.records = front ++ [r] →
    let folds := log.lost = 0 ∧ r.kind = f.kind ∧ r.kind ≠ .lost ∧ r.channel = f.channel ∧ r.port = f.port ∧
      ∀ c ∈ cursors, unread r.number c = true
    (folds → log.accept cursors stamp f = { log with records := front ++
      [{ r with repeats := min 65535 (r.repeats + 1), stamp := stamp, detail := f.detail }] }) ∧
    (log.folds cursors f = true ↔ folds)

/-- A fault that a rule raises is stamped with the tick counter and joins the faults that wait, and the log has a turn. In a
turn it takes the waiting faults at the places the turn names, one after the other, or all of them, oldest first, when no
turn is named; a fault waits behind an earlier one of the same event, faults being of one event when they bear one event
number: each raise has a number of its own, unless it joins an event (inEvent). Each is taken with its own stamp and with the cursors of exactly
the PRESENT ports at that moment, but the port of a PORT_ABSENT as ABSENT and that of a PORT_RETURNED as PRESENT (R163), and
PORT_RETURNED with the count of records unread then (R163; a LOST record among them: log
entry 14). A fault taken and not folded: a log of fewer than 64 records has room; a log of 64 has it exactly when no
PRESENT port has its oldest record unread, which is then retired. With the lost counter at 0 the fault takes the room as a
new record with the next record number and repeat count 1, or is lost. With the counter at L above 0, a LOST record of
detail L goes first: without room the counter rises, saturating; with room for the LOST record only, the counter becomes 1;
with room for both, both are appended in order and it becomes 0; nothing folds (R153, R156 to R159). The turns and the
event numbers are the model's choices (log entry 25). -/
def Obligations.FaultsAreAppendedOrLost : Prop :=
  (∀ s : State,
      let judgedPresent := fun (f : FaultReport) (p : Port) =>
        if f.kind = .portAbsent ∧ f.port = some p then false
        else if f.kind = .portReturned ∧ f.port = some p then true
        else (s.link p).present
      let cursors := fun f : FaultReport =>
        (([.a, .b, .k] : List Port).filter (judgedPresent f)).map (fun p => (s.link p).cursor)
      let asTaken := fun (log : FaultLog) (f : FaultReport) =>
        match f.kind, f.port with
        | .portReturned, some p =>
          { f with
            detail := BitVec.ofNat 16 ((log.records.filter (fun r => unread r.number (s.link p).cursor)).length +
              (if log.lost ≠ 0 ∧ unread log.next (s.link p).cursor = true then 1 else 0)) }
        | _, _ => f
      let takes := fun (log : FaultLog) (i : Nat) =>
        match log.waiting[i]? with
        | some f =>
          if ∃ e ∈ log.waiting.take i, e.event = f.event then log
          else { log with waiting := log.waiting.eraseIdx i }.accept (cursors f.report) f.stamp (asTaken log f.report)
        | none => log
      let turn := fun log : FaultLog =>
        match log.turns with
        | places :: rest => places.foldl takes { log with turns := rest }
        | [] => log.waiting.foldl (fun l _ => takes l 0) log
      (∀ log : FaultLog, log.turn s.link = turn log) ∧
      ∀ (kind : FaultKind) (channel : Option (Fin 48)) (port : Option Port) (detail : Nat),
        let report : FaultReport := { kind := kind, channel := channel, port := port, detail := BitVec.ofNat 16 detail }
        s.raise kind channel port detail =
          { s with
            log := turn { s.log with
              waiting := s.log.waiting ++ [{ event := s.log.event, stamp := s.timebase.tick, report := report }]
              event := s.log.event + 1 } } ∧
        (∀ event : Nat, s.inEvent event = { s with log := { s.log with event := event } }) ∧
        (s.log.waiting = [] → s.log.turns = [] →
          s.raise kind channel port detail =
            { s with
              log := { s.log with event := s.log.event + 1 }.accept (cursors report) s.timebase.tick
                (asTaken s.log report) })) ∧
  (∀ (log : FaultLog) (cursors : List (BitVec 32)) (stamp : BitVec 32) (f : FaultReport),
      log.lost = 0 → log.folds cursors f = false →
      let record : FaultRecord :=
        { number := log.next, kind := f.kind, channel := f.channel, port := f.port, stamp := stamp, detail := f.detail,
          repeats := 1 }
      (log.records.length < 64 →
        log.accept cursors stamp f = { log with records := log.records ++ [record], next := log.next + 1, lost := 0 }) ∧
      (∀ (oldest : FaultRecord) (rest : List FaultRecord), log.records = oldest :: rest → rest.length = 63 →
        ((∀ c ∈ cursors, unread oldest.number c = false) →
          log.accept cursors stamp f = { log with records := rest ++ [record], next := log.next + 1, lost := 0 }) ∧
        ((∃ c ∈ cursors, unread oldest.number c = true) → log.accept cursors stamp f = { log with lost := 1 }))) ∧
  (∀ (log : FaultLog) (cursors : List (BitVec 32)) (stamp : BitVec 32) (f : FaultReport), log.lost ≠ 0 →
      let lostRecord : FaultRecord :=
        { number := log.next, kind := .lost, channel := none, port := none, stamp := stamp,
          detail := BitVec.ofNat 16 log.lost, repeats := 1 }
      let record : FaultRecord :=
        { number := log.next + 1, kind := f.kind, channel := f.channel, port := f.port, stamp := stamp,
          detail := f.detail, repeats := 1 }
      (log.records.length < 63 → log.accept cursors stamp f =
        { log with records := log.records ++ [lostRecord, record], next := log.next + 1 + 1, lost := 0 }) ∧
      (∀ (r1 r2 : FaultRecord) (rest : List FaultRecord), log.records = r1 :: r2 :: rest → rest.length = 62 →
        ((∃ c ∈ cursors, unread r1.number c = true) →
          log.accept cursors stamp f = { log with lost := min 65535 (log.lost + 1) }) ∧
        ((∀ c ∈ cursors, unread r1.number c = false) → (∃ c ∈ cursors, unread r2.number c = true) →
          log.accept cursors stamp f =
            { log with records := r2 :: rest ++ [lostRecord], next := log.next + 1, lost := 1 }) ∧
        ((∀ c ∈ cursors, unread r1.number c = false) → (∀ c ∈ cursors, unread r2.number c = false) →
          log.accept cursors stamp f =
            { log with records := rest ++ [lostRecord, record], next := log.next + 1 + 1, lost := 0 })) ∧
      (∀ (r1 : FaultRecord) (rest : List FaultRecord), log.records = r1 :: rest → rest.length = 62 →
        ((∀ c ∈ cursors, unread r1.number c = false) →
          log.accept cursors stamp f =
            { log with records := rest ++ [lostRecord, record], next := log.next + 1 + 1, lost := 0 }) ∧
        ((∃ c ∈ cursors, unread r1.number c = true) →
          log.accept cursors stamp f =
            { log with records := r1 :: rest ++ [lostRecord], next := log.next + 1, lost := 1 })))

/-! ## Port links and resets -/

/-- A frame arrives: a malformed one raises the framing-error count, saturating, and is answered FORMAT at once when it
holds at least 2 bytes, and changes nothing else; a well-formed one refreshes the port's presence, with PORT_RETURNED
when it was ABSENT, and then joins a queue of fewer than 4 frames, or is answered PORT_FULL at once (R167, R168, R173).
PORT_RETURNED's detail is R163's 'number of records in the log at or beyond the port's cursor just before this record is
appended', counted again as the log takes the fault (FaultsAreAppendedOrLost); that it counts a LOST record which the same fault appends first is the model's reading (log entry 14). -/
def Obligations.FrameArrivalIsJudgedAtOnce : Prop :=
  ∀ (s : State) (p : Port) (bytes : List Byte), s.resetLine = false →
    (frameWellFormed bytes = false →
      let t := s.setLink p { s.link p with framing := min 65535 ((s.link p).framing + 1) }
      exec (.frameArrival p bytes) s =
        .next (match bytes with
          | code :: tag :: _ => { t with responses := s.responses ++ [⟨p, [tag, code, 4, 0]⟩] }
          | _ => t)) ∧
    (∀ (code tag : Byte) (rest : List Byte), bytes = code :: tag :: rest → frameWellFormed bytes = true →
      let u := s.setLink p { s.link p with present := true, timer := 0 }
      let detail := (s.log.records.filter (fun r => unread r.number (s.link p).cursor)).length +
        (if s.log.lost ≠ 0 ∧ unread s.log.next (s.link p).cursor = true then 1 else 0)
      let t := if (s.link p).present then u else u.raise .portReturned none (some p) detail
      exec (.frameArrival p bytes) s =
        .next (if (s.link p).queue.length < 4 then t.setLink p { t.link p with queue := (s.link p).queue ++ [bytes] }
          else { t with responses := s.responses ++ [⟨p, [tag, code, 15, 0]⟩] }))

/-- RESET from port K is answered DONE and stops the takings; the warm reset that follows gives everything the values of
power-on, written out here, but for the master key store, which keeps its slots. Asserting the reset line makes the same
warm reset; while the line stays asserted no command, arrival, marker, slot boundary, clock event or event of the part's
own changes anything; its release leaves the warm-reset values; power-on leaves the master key store EMPTY as well (R4,
R40, R86, R87, R99, R150, R154, R155, R173, R178, R180). The model's own fields are kept, and power-on keeps the level of
the line; the slot number, the kept entry and the line after a reset are the model's (log entries 2, 11, 12, 17 and
20), and so is that a fault which the log has not yet taken is gone (log entry 25). -/
def Obligations.ResetsGiveTheirValues : Prop :=
  let closed : Channel :=
      { state := .closed, serving := none, master := none, shop := none, current := none, previous := none,
        pendingEntry := none, base := none, renewal := .idle, wanted := none, holdOff := 0, offerTimer := none,
        renewRetries := 0, sync := .sync, syncLoss := 0, challenge := none, resyncRetries := 0, resyncTimer := none,
        held := false, outbound := [], pendingCells := [], preset := 8388608, ageLimit := 0,
        quality :=
          { counts := ⟨0, 0, 0, 0, 0, 0, 0, 0, 0⟩, last := ⟨0, 0, 0, 0, 0, 0, 0, 0, 0⟩, lastScore := none,
            smoothed := 1000, low := false, storm := false, silenceRunning := false, silence := 0 } }
  let link : PortLink := { queue := [], framing := 0, present := false, timer := 0, cursor := 1, mask := 7 }
  let fresh := fun (s : State) (masters : Vector MasterSlot 4) (resetLine : Bool) =>
    ({ channels := Vector.replicate 48 closed
       masters := masters
       timebase := { trunk := .lost, phase := 0, beats := 0, acquire := 0, deviation := 0, tick := 0 }
       sequencer :=
         { slot := 0, kept := none, loadDue := false,
           map := Vector.replicate 64 { inForce := .unused, pending := none },
           frame := { slots := 32, beatLen := 8000, slip := 40, loss := 3 }, pendingFrame := none }
       lineOut := none
       receive := { jump := 4096, threshold := 4 }
       renewalParams := { tOffer := 64, retryLimit := 3, cutover := 16 }
       qualityParams := { period := 1024, low := 900, high := 950, stormLimit := 32, silenceLimit := 2048 }
       presencePeriod := 512
       inboundA := []
       inboundB := []
       lastChannel := 0
       stray := 0
       periodTimer := 0
       log := { records := [], next := 1, lost := 0, waiting := [], turns := s.log.turns, event := s.log.event }
       portA := link
       portB := link
       portK := link
       lastPort := .a
       startup := true
       halted := false
       resetLine := resetLine
       responses := s.responses
       nonceIndex := s.nonceIndex
       pending := s.pending } : State)
  (∀ (s : State) (tag : Byte), s.resetLine = false →
      (s.canTake .k (commandFrame 0x7F tag []) = true →
        exec (.reset .k tag) s = .next ({ s.taken .k with halted := true }.respond .k tag 0x7F .done []) ∧
        ∀ (i : Instr) (p : Port) (bytes : List Byte) (t : State), frameOf i = some (p, bytes) → t.halted = true →
          exec i t = .next t) ∧
      (s.halted = true → exec .warmReset s = .next (fresh s s.masters false))) ∧
  (∀ s : State,
      exec .resetLine s = .next (fresh s s.masters true) ∧
      exec .resetLineRelease s = .next { s with resetLine := false } ∧
      exec .powerOn s = .next (fresh s (Vector.replicate 4 .empty) s.resetLine) ∧
      (s.resetLine = true → ∀ i : Instr, i ≠ .resetLine → i ≠ .resetLineRelease → i ≠ .powerOn → exec i s = .next s))

/-! ## The timebase -/

/-- A phase unit below BEAT_LEN − 1 advances the phase; any other is a beat, and so is BEAT. A beat sets the phase to 0
and raises beats since marker, which stays at 15; a trunk that is not LOST becomes LOST when they reach the loss beats,
with TRUNK_LOST when it was LOCKED; and the beat makes a beat tick unless the trunk is LOCKED after it (R26, R27, R34,
R35). TRUNK_LOSS alone is step 2 of R34, taken when its condition stands (the model's choice, log entry 5). That BEAT wraps
from whatever phase the timer stands at is the model's choice (log entry 10), that TRUNK_LOST is raised, and stamped,
before the tick of its beat is the model's reading (log entry 8), and that a load event still to be taken when the trunk
is lost is not raised is the model's choice (log entry 23). -/
def Obligations.BeatsMakeTicksAndLoseTheTrunk : Prop :=
  ∀ (s : State) (order : List TickWork), s.resetLine = false →
    let loss := s.sequencer.frame.loss
    let beats := min 15 (s.timebase.beats + 1)
    let u := { s with timebase := { s.timebase with phase := 0, beats := beats } }
    let lost := fun v : State =>
      { v with
        timebase := { v.timebase with trunk := .lost, acquire := 0 }
        sequencer := { v.sequencer with kept := none, loadDue := false } }
    (s.timebase.phase + 1 < s.sequencer.frame.beatLen →
      exec (.phaseUnit order) s = .next { s with timebase := { s.timebase with phase := s.timebase.phase + 1 } }) ∧
    (s.sequencer.frame.beatLen ≤ s.timebase.phase + 1 → exec (.phaseUnit order) s = exec (.beat order) s) ∧
    (s.timebase.trunk = .lost → exec (.beat order) s = .next (u.tick .beat order)) ∧
    (s.timebase.trunk = .acquiring →
      exec (.beat order) s = .next ((if loss ≤ beats then lost u else u).tick .beat order)) ∧
    (s.timebase.trunk = .locked → beats < loss → exec (.beat order) s = .next u) ∧
    (s.timebase.trunk = .locked → loss ≤ beats →
      exec (.beat order) s = .next (((lost u).raise .trunkLost none none loss).tick .beat order)) ∧
    (s.timebase.trunk = .lost ∨ s.timebase.beats < loss → exec .trunkLoss s = .next s) ∧
    (s.timebase.trunk = .acquiring → loss ≤ s.timebase.beats → exec .trunkLoss s = .next (lost s)) ∧
    (s.timebase.trunk = .locked → loss ≤ s.timebase.beats →
      exec .trunkLoss s = .next ((lost s).raise .trunkLost none none loss))

/-- A marker keeps its deviation, sets phase, beats since marker and slot number to 0, and acts by the trunk state: LOST
becomes ACQUIRING; ACQUIRING becomes LOCKED, with TRUNK_LOCKED, on a frame of F slots within the slip limit and stays
ACQUIRING otherwise; LOCKED stays, with TRUNK_FRAMING and then TRUNK_SLIP each on its own condition. The tick is a marker
tick when the trunk is LOCKED after the marker and a beat tick otherwise. While it is not LOCKED the line is given IDLE;
when it is, slot 0 is served by the entry then in force (R27, R30 to R33, R36, R37; log entries 8 and 9). The load event of
slot 0 is taken at once or left for later, and one that the slot before still has is taken before the marker (the model's
choice, log entry 23). -/
def Obligations.MarkersActByTheTrunkState : Prop :=
  (∀ (s t : State) (load : LoadTime) (order : List TickWork), s.resetLine = false →
    exec (.slotBoundary .load) s = .next t → exec (.frameMarker order load) s = exec (.frameMarker order load) t) ∧
  ∀ (s : State) (load : LoadTime) (order : List TickWork), s.resetLine = false → s.sequencer.loadDue = false →
    s.sequencer.frame.InRange → (∀ f, s.sequencer.pendingFrame = some f → f.InRange) →
    let frame := s.sequencer.frame
    let deviation := min s.timebase.phase (frame.beatLen - s.timebase.phase)
    let length := s.sequencer.slot + 1
    let restart := fun v : State =>
      { v with
        timebase := { v.timebase with deviation := deviation, phase := 0, beats := 0 }
        sequencer := { v.sequencer with slot := 0 } }
    let acquiring := restart { s with timebase := { s.timebase with trunk := .acquiring, acquire := 1 } }
    (s.timebase.trunk = .lost ∨ (s.timebase.trunk = .acquiring ∧ (length ≠ frame.slots ∨ frame.slip < deviation)) →
      exec (.frameMarker order load) s =
        .next { (acquiring.tick .beat order).keep none with lineOut := some idleCell }) ∧
    (s.timebase.trunk = .acquiring → length = frame.slots → deviation ≤ frame.slip →
      ((restart ({ s with timebase := { s.timebase with trunk := .locked, acquire := 2 } }.raise
        .trunkLocked none none frame.slots)).tick .marker order).beginsFrame load (exec (.frameMarker order load) s)) ∧
    (s.timebase.trunk = .locked →
      let framed := if length = frame.slots then s else s.raise .trunkFraming none none (min 65535 length)
      let slipped :=
        if frame.slip < deviation then (framed.inEvent s.log.event).raise .trunkSlip none none deviation else framed
      ((restart slipped).tick .marker order).beginsFrame load (exec (.frameMarker order load) s))

/-- A tick of either kind, whatever order its works are taken in: the tick counter advances and wraps; pending slot map
values and frame parameters are in force; the period timer advances, and restarts at P; the presence timer of a PRESENT
port advances, and at the presence period the port is ABSENT, its timer 0; key age and hold-off of every record count,
and offer, resync, cutover and silence timers on a marker tick only; at a period end every channel that is not CLOSED is
scored. A record with no other work due is then given whole, and so is one with one other work due, beside the AGE trigger
or not: a start at the end of the hold-off, the expiry of the offer, resync or cutover timer, closure by silence (premises
about the AGE trigger beside an expiry rule out states that no run reaches). OPENING and CLOSING are
TicksEndOpeningAndClosing's. Whatever comes together on a record, the state is what the due works make of the advanced
state one after the other, in an order that the manual leaves open and the event may name. Where each record has one work
due at most, scoring and the AGE trigger apart, the delivered cells of the channels closed by silence leave, and the
faults of the works, PORT_ABSENT among them, are raised in that order, stamped with the advanced counter; a period end
beside silence or CLOSING of one record is left out of this last clause (R6, R27, R28, R41, R75, R76, R102 to R108, R115,
R140 to R143, R147, R148, R163, R173). The model's choices: the event names the order (log entry 6), counts advance
before the works (7), the stamp (8). -/
def Obligations.TicksAdvanceEveryCount : Prop :=
  ∀ (s : State) (kind : TickKind) (order : List TickWork),
    let t := s.tick kind order
    let period := min 65535 (s.periodTimer + 1)
    -- the record of a channel whose timers have counted, and which the period end has scored
    let counted := fun c : Fin 48 =>
      let r := s.chan c
      { r with
        current := r.current.map (fun e => { e with age := min 4294967295 (e.age + 1) })
        holdOff := r.holdOff - 1
        offerTimer := if kind = .marker then r.offerTimer.map (· - 1) else r.offerTimer
        resyncTimer := if kind = .marker then r.resyncTimer.map (· - 1) else r.resyncTimer
        previous :=
          if kind = .marker then r.previous.map (fun e => { e with cutover := e.cutover - 1 }) else r.previous
        quality :=
          { r.quality with
            silence :=
              if kind = .marker ∧ r.quality.silenceRunning = true then min 65535 (r.quality.silence + 1)
              else r.quality.silence } }
    let n := fun v : Quality => v.counts.g + v.counts.t + v.counts.j + v.counts.e + v.counts.x
    let score := fun v : Quality => 1000 * v.counts.g / n v
    let smoothed := fun v : Quality => if n v = 0 then v.smoothed else (3 * v.smoothed + score v + 2) / 4
    let low := fun v : Quality =>
      if v.low then decide (smoothed v < s.qualityParams.high) else decide (smoothed v < s.qualityParams.low)
    let scored := fun c : Fin 48 =>
      if s.qualityParams.period ≤ period ∧ (s.chan c).state ≠ .closed then
        { counted c with
          quality :=
            { (counted c).quality with
              counts := ⟨0, 0, 0, 0, 0, 0, 0, 0, 0⟩
              last := (s.chan c).quality.counts
              lastScore :=
                if n (s.chan c).quality = 0 then (s.chan c).quality.lastScore else some (score (s.chan c).quality)
              smoothed := smoothed (s.chan c).quality
              low := low (s.chan c).quality
              storm := false } }
      else counted c
    let keyed := fun c : Fin 48 => (s.chan c).state = .keying ∨ (s.chan c).state = .active
    let silent := fun c : Fin 48 =>
      decide (kind = .marker) && (s.chan c).quality.silenceRunning &&
        decide (s.qualityParams.silenceLimit ≤ (counted c).quality.silence)
    -- the works that the tick brings
    let due := fun w : TickWork =>
      match w with
      | .keyingEntry c => (s.chan c).state = .opening
      | .closingEnd c => (s.chan c).state = .closing
      | .ageTrigger c => ∃ e, (counted c).current = some e ∧ (s.chan c).ageLimit ≠ 0 ∧ (s.chan c).ageLimit ≤ e.age
      | .holdOffEnd c =>
        keyed c ∧ (s.chan c).renewal = .idle ∧
          ∃ k, (s.chan c).wanted = some k ∧ ((counted c).holdOff = 0 ∨ k.forcing = true)
      | .offerExpiry c => kind = .marker ∧ (counted c).offerTimer = some 0
      | .resyncExpiry c => kind = .marker ∧ (counted c).resyncTimer = some 0
      | .cutoverExpiry c => kind = .marker ∧ ∃ p, (counted c).previous = some p ∧ p.cutover = 0
      | .silence c => silent c = true
      | .score c => s.qualityParams.period ≤ period ∧ (s.chan c).state ≠ .closed
      | .presence p => (s.link p).present = true ∧ s.presencePeriod ≤ min 65535 ((s.link p).timer + 1)
    -- one work on the state that the works before it have left
    let aged := fun x : Channel =>
      match x.current with
      | some e => decide (x.ageLimit ≠ 0) && decide (x.ageLimit ≤ e.age)
      | none => false
    let raised := fun (u : State) (k : FaultKind) (c : Fin 48) (detail : Nat) =>
      u.raise k (some c) ((u.chan c).serving.map Service.port) detail
    let startsIfDue := fun (u : State) (c : Fin 48) =>
      let x := u.chan c
      let epoch : BitVec 8 :=
        match x.current with
        | some e => if e.key.epoch = 255 then 1 else e.key.epoch + 1
        | none => 1
      match x.wanted with
      | some k =>
        if (x.state = .keying ∨ x.state = .active) ∧ x.renewal = .idle ∧ (x.holdOff = 0 ∨ k.forcing = true) then
          (u.setChan c { x with
            renewal := .offered
            pendingEntry := some { epoch := epoch, nonce := u.nextNonce, keys := none }
            pendingCells := enqueue (.offer epoch u.nextNonce) x.pendingCells
            renewRetries := s.renewalParams.retryLimit
            offerTimer := none }).afterDraw
        else u
      | none => u
    let after := fun (u : State) (w : TickWork) =>
      match w with
      | .keyingEntry c =>
        let x := u.chan c
        let key := x.master.bind (fun m => match u.masters[m] with | .loaded key _ => some key | .empty => none)
        if x.state = .opening then
          (u.setChan c { x with
            state := .keying
            base := key.bind (fun key => x.shop.map (fun shop => baseEntry key c shop))
            quality := { x.quality with silenceRunning := true, silence := 0 } }).trigger c .initial
        else u
      | .closingEnd c => if (u.chan c).state = .closing then u.setChan c Channel.closedValues else u
      | .ageTrigger c => if aged (u.chan c) then u.trigger c .age else u
      | .holdOffEnd c => startsIfDue u c
      | .offerExpiry c =>
        let x := u.chan c
        if x.offerTimer ≠ some 0 then u
        else if x.renewRetries = 0 then
          (raised u .renewFail c (match x.pendingEntry with | some p => p.epoch.toNat | none => 0)).setChan c { x with
            pendingEntry := none
            pendingCells := x.pendingCells.filter (fun y => decide (y.family ≠ .renewal))
            offerTimer := none
            renewal := .idle
            holdOff := 8 * s.renewalParams.tOffer
            wanted :=
              if x.state = .keying then some .initial
              else if aged x then some .age
              else
                match x.current with
                | some e => if x.preset < e.nextTx then some .preset else none
                | none => none }
        else
          u.setChan c { x with
            pendingCells :=
              match x.pendingEntry with
              | some p => enqueue (.offer p.epoch p.nonce) x.pendingCells
              | none => x.pendingCells
            renewRetries := x.renewRetries - 1
            offerTimer := none }
      | .resyncExpiry c =>
        let x := u.chan c
        if x.resyncTimer ≠ some 0 then u
        else if x.resyncRetries = 0 then
          ((raised u .resyncFail c s.renewalParams.retryLimit).setChan c { x with
            pendingCells := x.pendingCells.filter (fun y => decide (y.family ≠ .challenge))
            challenge := none
            resyncTimer := none }).trigger c .resync
        else
          u.setChan c { x with
            pendingCells :=
              match x.challenge with
              | some y => enqueue (.resync y) x.pendingCells
              | none => x.pendingCells
            resyncRetries := x.resyncRetries - 1
            resyncTimer := none }
      | .cutoverExpiry c =>
        let x := u.chan c
        match x.previous with
        | some p =>
          if p.cutover = 0 then startsIfDue (u.setChan c { x with previous := none, renewal := .idle }) c else u
        | none => u
      | .silence c =>
        let x := u.chan c
        if x.quality.silenceRunning = true ∧ s.qualityParams.silenceLimit ≤ x.quality.silence then
          let v := raised u .silent c x.quality.silence
          (match x.serving with
            | some q => v.setInbound q ((v.inbound q).filter (fun y => decide (y.channel ≠ c)))
            | none => v).setChan c Channel.closedValues
        else u
      | .score c =>
        let x := u.chan c
        if x.state = .closed then u
        else
          let v := u.setChan c { x with
            quality :=
              { x.quality with
                counts := ⟨0, 0, 0, 0, 0, 0, 0, 0, 0⟩
                last := x.quality.counts
                lastScore := if n x.quality = 0 then x.quality.lastScore else some (score x.quality)
                smoothed := smoothed x.quality
                low := low x.quality
                storm := false } }
          if low x.quality = x.quality.low then v
          else raised v (if low x.quality then .qualityLow else .qualityOk) c (smoothed x.quality)
      | .presence p =>
        if (u.link p).present = true ∧ s.presencePeriod ≤ (u.link p).timer then
          (u.setLink p { u.link p with present := false, timer := 0 }).raise .portAbsent none (some p) s.presencePeriod
        else u
    t = { s with
      timebase := { s.timebase with tick := s.timebase.tick + 1 }
      sequencer := { s.sequencer with
        map := t.sequencer.map, frame := s.sequencer.pendingFrame.getD s.sequencer.frame, pendingFrame := none }
      periodTimer := if s.qualityParams.period ≤ period then 0 else period
      channels := t.channels
      portA := t.portA
      portB := t.portB
      portK := t.portK
      inboundA := t.inboundA
      inboundB := t.inboundB
      log := t.log
      nonceIndex := t.nonceIndex } ∧
    (∀ n : Fin 64, t.sequencer.map[n] =
      match s.sequencer.map[n].pending with
      | some k => { inForce := k, pending := none }
      | none => s.sequencer.map[n]) ∧
    (∀ p : Port, t.link p =
      if (s.link p).present = false then s.link p
      else if s.presencePeriod ≤ min 65535 ((s.link p).timer + 1) then { s.link p with present := false, timer := 0 }
      else { s.link p with timer := min 65535 ((s.link p).timer + 1) }) ∧
    -- the records
    (∀ c : Fin 48,
      let r := scored c
      let alone := fun w : TickWork => due w ∧ ∀ v, workChannel v = some c → due v → v = w ∨ v = .score c
      -- the work comes alone or beside the AGE trigger, which leaves its cause on the flag of a keyed record
      let beside := fun w : TickWork =>
        due w ∧ ∀ v, workChannel v = some c → due v → v = w ∨ v = .ageTrigger c ∨ v = .score c
      let reached := aged r && (decide (r.state = .keying) || decide (r.state = .active))
      let wanted := if reached then some (r.wanted.getD .age) else r.wanted
      -- a renewal starts on the record x, with a nonce that is not all zero; `before` and `behind` are what is done to
      -- the pending list before the OFFER is queued and after it
      let startsAmong := fun (x : Channel) (before behind : List ControlCell → List ControlCell) =>
        let epoch : BitVec 8 :=
          match x.current with
          | some e => if e.key.epoch = 255 then 1 else e.key.epoch + 1
          | none => 1
        ∃ nonce : BitVec 64, nonce ≠ 0 ∧
          t.chan c =
            { x with
              renewal := .offered
              pendingEntry := some { epoch := epoch, nonce := nonce, keys := none }
              pendingCells := behind (enqueue (.offer epoch nonce) (before x.pendingCells))
              renewRetries := s.renewalParams.retryLimit
              offerTimer := none }
      let starts := fun x : Channel => startsAmong x id id
      ((∀ v, workChannel v = some c → due v → v = .score c) → t.chan c = r) ∧
      (alone (.ageTrigger c) →
        (¬ keyed c → t.chan c = r) ∧
        (keyed c → r.renewal = .idle → r.holdOff = 0 → starts { r with wanted := some .age }) ∧
        (keyed c → r.renewal ≠ .idle ∨ r.holdOff ≠ 0 → t.chan c = { r with wanted := some (r.wanted.getD .age) })) ∧
      (due (.holdOffEnd c) →
        (∀ v, workChannel v = some c → due v → v = .holdOffEnd c ∨ v = .ageTrigger c ∨ v = .score c) → starts r) ∧
      (∀ p, beside (.offerExpiry c) → (aged r = true → r.renewal ≠ .idle ∧ s.renewalParams.tOffer ≠ 0) →
        r.pendingEntry = some p →
        (1 ≤ r.renewRetries → t.chan c =
          { r with
            pendingCells := enqueue (.offer p.epoch p.nonce) r.pendingCells
            renewRetries := r.renewRetries - 1
            offerTimer := none
            wanted := wanted }) ∧
        (r.renewRetries = 0 → t.chan c =
          { r with
            pendingEntry := none
            pendingCells := r.pendingCells.filter (fun x => decide (x.family ≠ .renewal))
            offerTimer := none
            renewal := .idle
            holdOff := 8 * s.renewalParams.tOffer
            wanted :=
              if r.state = .keying then some .initial
              else if aged r then some .age
              else
                match r.current with
                | some e => if r.preset < e.nextTx then some .preset else none
                | none => none })) ∧
      (∀ x, beside (.resyncExpiry c) → r.challenge = some x →
        (1 ≤ r.resyncRetries →
          let sent := { r with resyncRetries := r.resyncRetries - 1, resyncTimer := none, wanted := wanted }
          (reached = false ∨ r.renewal ≠ .idle ∨ r.holdOff ≠ 0 →
            t.chan c = { sent with pendingCells := enqueue (.resync x) r.pendingCells }) ∧
          (reached = true → r.renewal = .idle → r.holdOff = 0 →
            startsAmong sent (enqueue (.resync x)) id ∨ startsAmong sent id (enqueue (.resync x)))) ∧
        (r.resyncRetries = 0 →
          let ended :=
            { r with
              pendingCells := r.pendingCells.filter (fun x => decide (x.family ≠ .challenge))
              challenge := none
              resyncTimer := none }
          (¬ keyed c → t.chan c = ended) ∧
          (keyed c → r.renewal = .idle → starts { ended with wanted := some .resync }) ∧
          (keyed c → r.renewal ≠ .idle → t.chan c = { ended with wanted := some .resync }))) ∧
      (beside (.cutoverExpiry c) → (aged r = true → r.renewal ≠ .idle) →
        let ended := { r with previous := none, renewal := .idle, wanted := wanted }
        (∀ k, wanted = some k → keyed c → r.holdOff = 0 ∨ k.forcing = true → starts ended) ∧
        (wanted = none ∨ ¬ keyed c ∨ (r.holdOff ≠ 0 ∧ ∀ k, wanted = some k → k.forcing = false) →
          t.chan c = ended)) ∧
      (beside (.silence c) → t.chan c = Channel.closedValues)) ∧
    -- all the works, one after the other, whatever comes together on a record
    (∃ (ws : List TickWork) (u : State), ws.Nodup ∧ (∀ w, w ∈ ws ↔ due w) ∧
      (order.Nodup → (∀ w, w ∈ order ↔ due w) → ws = order) ∧
      u = { s with
        timebase := t.timebase, sequencer := t.sequencer, periodTimer := t.periodTimer, channels := u.channels
        portA := u.portA, portB := u.portB, portK := u.portK } ∧
      (∀ c, u.chan c = counted c) ∧
      (∀ p, u.link p =
        { s.link p with timer := if (s.link p).present then min 65535 ((s.link p).timer + 1) else (s.link p).timer }) ∧
      t = ws.foldl after u) ∧
    -- the inbound queues and the log
    ((∀ (c : Fin 48) (v w : TickWork), workChannel v = some c → workChannel w = some c → due v → due w →
        v = w ∨
        ((v = .ageTrigger c ∨ w = .ageTrigger c) ∧ (due (.offerExpiry c) → (s.chan c).renewal ≠ .idle)) ∨
        ((v = .score c ∨ w = .score c) ∧ ¬ due (.silence c) ∧ ¬ due (.closingEnd c))) →
      (∀ q : Service, t.inbound q =
        (s.inbound q).filter (fun x => !(silent x.channel && decide ((s.chan x.channel).serving = some q)))) ∧
      let report := fun (k : FaultKind) (c : Fin 48) (detail : Nat) =>
        ({ kind := k, channel := some c, port := (s.chan c).serving.map Service.port, detail := BitVec.ofNat 16 detail } :
          FaultReport)
      let fault := fun w : TickWork =>
        match w with
        | .offerExpiry c =>
          if (s.chan c).renewRetries = 0 then
            some (report .renewFail c (match (s.chan c).pendingEntry with | some p => p.epoch.toNat | none => 0))
          else none
        | .resyncExpiry c =>
          if (s.chan c).resyncRetries = 0 then some (report .resyncFail c s.renewalParams.retryLimit) else none
        | .silence c => some (report .silent c (counted c).quality.silence)
        | .score c =>
          if low (s.chan c).quality = (s.chan c).quality.low then none
          else
            some (report (if low (s.chan c).quality then .qualityLow else .qualityOk) c (smoothed (s.chan c).quality))
        | .presence p =>
          some { kind := .portAbsent, channel := none, port := some p, detail := BitVec.ofNat 16 s.presencePeriod }
        | _ => none
      -- one more work: the port that it finds ABSENT, and the fault that it raises
      let logged := fun (u : State) (w : TickWork) =>
        let v := match w with | .presence p => u.setLink p { u.link p with present := false, timer := 0 } | _ => u
        match fault w with | some f => v.raise f.kind f.channel f.port f.detail.toNat | none => v
      ∃ ws : List TickWork, ws.Nodup ∧ (∀ w, w ∈ ws ↔ due w) ∧
        (order.Nodup → (∀ w, w ∈ order ↔ due w) → ws = order) ∧
          t.log = (ws.foldl logged { s with timebase := t.timebase }).log)

/-- The first tick of either kind, in whatever order its works are taken: a channel that is still OPENING becomes KEYING
with the base entry derived from its slot's master key, its initial renewal offered with epoch 1 and a nonce that is not
all zero, and its silence timer running from 0; a channel that is still CLOSING receives the closed values; a CLOSED
channel stays CLOSED (R11, R14, R116). The premises rule out records that no run reaches. -/
def Obligations.TicksEndOpeningAndClosing : Prop :=
  ∀ (s : State) (kind : TickKind) (order : List TickWork) (c : Fin 48), s.RecordsSound →
    ((s.chan c).state = .closing ∨ (s.chan c).state = .closed → (s.tick kind order).chan c = Channel.closedValues) ∧
    (∀ (m : Fin 4) (key : Block) (check : BitVec 24) (shop : BitVec 32), (s.chan c).state = .opening →
      (s.chan c).quality.silenceRunning = false → (s.chan c).master = some m → s.masters[m] = .loaded key check →
      (s.chan c).shop = some shop →
      let t := s.tick kind order
      ∃ nonce : BitVec 64, nonce ≠ 0 ∧
        t.chan c =
          { s.chan c with
            state := .keying
            base := some (baseEntry key c shop)
            wanted := some .initial
            renewal := .offered
            pendingEntry := some { epoch := 1, nonce := nonce, keys := none }
            pendingCells := [.offer 1 nonce]
            renewRetries := s.renewalParams.retryLimit
            quality := { (t.chan c).quality with silenceRunning := true, silence := 0 } })

/-! ## Load events -/

/-- A served DATA slot of an ACTIVE channel that is not HELD: the head of the outbound queue leaves as DATA, or PAD is sent
when the queue is empty, under the current entry with the next tx sequence, which advances by one; at 16,776,960 the
channel becomes HELD and HARD_LIMIT is raised with the current epoch; and a sequence at or above the preset is a PRESET
trigger (R5, R20, R21, R22, R42). The load event is taken with the slot's boundary or later in the slot, before or after its
arrival (R36; log entry 23). -/
def Obligations.DataSlotSendsTheNextCell : Prop :=
  ∀ (s t : State) (part : SlotPart) (c : Fin 48) (e : CurrentEntry), s.takesLoad part (.data c) t →
    (s.chan c).state = .active →
    (s.chan c).held = false → (s.chan c).current = some e →
    let cell :=
      match (s.chan c).outbound with
      | x :: _ => trafficCell .data e.key c e.nextTx x.length x.payload
      | [] => trafficCell .pad e.key c e.nextTx 0 0
    let u := { t with lineOut := some cell }.modChan c (fun r =>
      { r with outbound := r.outbound.tail, current := some { e with nextTx := e.nextTx + 1 } })
    let v :=
      if e.nextTx + 1 = 16776960 then
        (u.modChan c (fun r => { r with held := true })).raise .hardLimit (some c)
          ((s.chan c).serving.map Service.port) e.key.epoch.toNat
      else u
    exec (.slotBoundary part) s = .next (if (s.chan c).preset < e.nextTx + 1 then v.trigger c .preset else v)

/-- What the line is given otherwise: IDLE in every slot while the trunk is not LOCKED; nothing in a slot at or above F or
in an UNUSED slot; IDLE in a DATA slot of a channel that is not ACTIVE or is HELD; and IDLE in a CONTROL slot when every
pending list is empty, the last channel served unchanged. Nothing changes but the slot number and the kept entry (R20,
R36, R37, R42, R127). A served slot's load event is taken with its boundary or left for later; until it is taken the line
is given nothing; it is taken once, and one that the slot in progress still has is taken before the next boundary (the
model's way of giving the order that R36 and R129 leave open, log entry 23). -/
def Obligations.OtherSlotsSendIdleOrNothing : Prop :=
  ∀ s : State, s.resetLine = false →
    let slot := min 65535 (s.sequencer.slot + 1)
    let unserved := fun line : Option Cell =>
      { s with sequencer := { s.sequencer with slot := slot, kept := none }, lineOut := line }
    (∀ (load : LoadTime) (t : State), exec (.slotBoundary .load) s = .next t →
      exec (.slotBoundary (.boundary load)) s = exec (.slotBoundary (.boundary load)) t) ∧
    (∀ load : LoadTime, s.sequencer.loadDue = false →
      (s.timebase.trunk ≠ .locked → exec (.slotBoundary (.boundary load)) s = .next (unserved (some idleCell))) ∧
      (s.timebase.trunk = .locked → s.sequencer.frame.slots ≤ slot →
        exec (.slotBoundary (.boundary load)) s = .next (unserved none))) ∧
    (∀ k : SlotKind, s.sequencer.loadDue = false → s.servesNext k →
      exec (.slotBoundary (.boundary .later)) s =
        .next { s with
          sequencer := { s.sequencer with slot := s.sequencer.slot + 1, kept := some k, loadDue := true }
          lineOut := none }) ∧
    (s.sequencer.loadDue = false → exec (.slotBoundary .load) s = .next s) ∧
    (∀ (part : SlotPart) (t : State),
      (s.takesLoad part .unused t → exec (.slotBoundary part) s = .next { t with lineOut := none }) ∧
      (∀ c : Fin 48, s.takesLoad part (.data c) t → (s.chan c).state ≠ .active ∨ (s.chan c).held = true →
        exec (.slotBoundary part) s = .next { t with lineOut := some idleCell }) ∧
      (s.takesLoad part .control t → (∀ c, (s.chan c).pendingCells = []) →
        exec (.slotBoundary part) s = .next { t with lineOut := some idleCell }))

/-- A served CONTROL slot sends the oldest pending cell of the first channel, in the scan that begins after the last channel
served, whose list is not empty. OFFER is tagged under the current entry, or the base entry while KEYING, and starts the
offer timer; RESYNC is tagged under the current entry and starts the resync timer; MARK carries the current epoch and
next tx sequence of this moment. That channel becomes the last one served, and nothing else changes (R57 to R59, R75,
R106, R127, R128). The load event is taken with the slot's boundary or later in the slot, on the lists as they then stand,
before or after the slot's arrival (R36, R129; log entry 23). -/
def Obligations.ControlSlotSendsTheChosenCell : Prop :=
  ∀ (s t : State) (part : SlotPart) (c : Fin 48) (x : ControlCell) (rest : List ControlCell),
    s.takesLoad part .control t →
    (s.chan c).pendingCells = x :: rest →
    (∀ d : Fin 48, scanDistance s.lastChannel d < scanDistance s.lastChannel c → (s.chan d).pendingCells = []) →
    let send := fun (cell : Cell) (f : Channel → Channel) =>
      { t.modChan c (fun r => f { r with pendingCells := rest }) with
        lastChannel := c
        lineOut := some cell }
    match x with
    | .offer epoch nonce =>
      ∀ (key : KeyEntry) (shop : BitVec 32), (s.chan c).shop = some shop →
        (if (s.chan c).state = .keying then (s.chan c).base = some key
          else ∃ e, (s.chan c).current = some e ∧ e.key = key) →
        exec (.slotBoundary part) s =
          .next (send (controlCell .offer key c (epoch ++ nonce ++ shop ++ 0#280))
            (fun r => { r with offerTimer := some s.renewalParams.tOffer }))
    | .switch _ => True
    | .resync challenge =>
      ∀ e, (s.chan c).current = some e →
        exec (.slotBoundary part) s =
          .next (send (controlCell .resync e.key c (challenge ++ 0#320))
            (fun r => { r with resyncTimer := some s.renewalParams.tOffer }))
    | .mark challenge =>
      ∀ e, (s.chan c).current = some e →
        exec (.slotBoundary part) s =
          .next (send (controlCell .mark e.key c (challenge ++ e.key.epoch ++ BitVec.ofNat 24 e.nextTx ++ 0#288)) id)

/-- Sending the SWITCH installs the new entry in the same load event. The SWITCH is tagged under the pending entry. The new
entry is current with next tx sequence 0, key age 0 and an empty window; the pending entry, HELD, the flag and the
hold-off are cleared; HUNT and QUARANTINE end, with sync-loss count 0 and the resync exchange ended. On an ACTIVE channel
the old entry becomes the previous one with its window and cutover timer W, and the state is CUTOVER; on a KEYING channel
the base entry is erased, the state is IDLE, and the channel is ACTIVE (R57, R112, R113, R127, R128). The load event is
taken with the slot's boundary or later in the slot (R36, R129; log entry 23). -/
def Obligations.SwitchInstallsTheNewEntry : Prop :=
  ∀ (s t : State) (part : SlotPart) (c : Fin 48) (epoch : BitVec 8) (rest : List ControlCell) (p : PendingEntry) (keys : KeyPair),
    s.takesLoad part .control t → (s.chan c).pendingCells = .switch epoch :: rest →
    (∀ d : Fin 48, scanDistance s.lastChannel d < scanDistance s.lastChannel c → (s.chan d).pendingCells = []) →
    (s.chan c).pendingEntry = some p → p.keys = some keys →
    let r := s.chan c
    let key : KeyEntry := { epoch := p.epoch, keys := keys }
    let ends := r.sync = .hunt ∨ r.sync = .quarantine
    let installed : Channel :=
      { r with
        pendingCells := if ends then rest.filter (fun x => decide (x.family ≠ .challenge)) else rest
        sync := if ends then .sync else r.sync
        syncLoss := if ends then 0 else r.syncLoss
        challenge := if ends then none else r.challenge
        resyncRetries := if ends then 0 else r.resyncRetries
        resyncTimer := if ends then none else r.resyncTimer
        current := some { key := key, nextTx := 0, age := 0, window := { high := none, seen := [] } }
        pendingEntry := none
        held := false
        wanted := none
        holdOff := 0 }
    let send := fun r' : Channel =>
      { t.setChan c r' with
        lastChannel := c
        lineOut := some (controlCell .switch key c (epoch ++ 0#376)) }
    (∀ e, r.state = .active → r.current = some e →
      exec (.slotBoundary part) s =
        .next (send { installed with
          previous := some { key := e.key, window := e.window, cutover := s.renewalParams.cutover }
          renewal := .cutover })) ∧
    (r.state = .keying →
      exec (.slotBoundary part) s = .next (send { installed with base := none, renewal := .idle, state := .active }))

/-! ## Arrivals in DATA slots -/

/-- An arrival in a slot that is not served, or in a served slot kept as UNUSED, is discarded without being counted, whatever
it brings. In a served DATA slot of channel c: an empty slot counts X and an
IDLE cell idle, on an ACTIVE channel only; any other cell on a CLOSED channel is discarded, and on an OPENING, KEYING or
CLOSING one counts E only. On an ACTIVE channel, a cell that is no DATA or PAD cell for c with a sound header counts E and
raises the sync-loss count; a sound one in HUNT or QUARANTINE counts withheld; and one of an unknown epoch counts E and
raises the sync-loss count (R35 to R37, R43 to R45, R62 to R65, R72). -/
def Obligations.DataSlotArrivalsAreCounted : Prop :=
  ∀ s : State, s.resetLine = false →
    (∀ arrival, s.sequencer.kept = none ∨ s.sequencer.kept = some .unused →
      exec (.dataSlotArrival arrival) s = .next s ∧ exec (.controlSlotArrival arrival) s = .next s) ∧
    (∀ c : Fin 48, s.sequencer.kept = some (.data c) →
      let count := fun f : Counts → Counts =>
        s.modChan c (fun r => { r with quality := { r.quality with counts := f r.quality.counts } })
      let countE := count (fun n => { n with e := min 65535 (n.e + 1) })
      let active := (s.chan c).state = .active
      exec (.dataSlotArrival none) s = .next (if active then count (fun n => { n with x := min 65535 (n.x + 1) }) else s) ∧
      (∀ cell : Cell, cellKindOf cell = some .idle →
        exec (.dataSlotArrival (some cell)) s =
          .next (if active then count (fun n => { n with idle := min 65535 (n.idle + 1) }) else s)) ∧
      (∀ cell : Cell, cellKindOf cell ≠ some .idle →
        ((s.chan c).state = .closed → exec (.dataSlotArrival (some cell)) s = .next s) ∧
        ((s.chan c).state ≠ .closed → ¬ active → exec (.dataSlotArrival (some cell)) s = .next countE) ∧
        (active → (∀ k, ¬ isTraffic k c cell) →
          exec (.dataSlotArrival (some cell)) s = .next (countE.raiseSyncLoss c)) ∧
        (∀ k, active → isTraffic k c cell →
          ((s.chan c).sync = .hunt ∨ (s.chan c).sync = .quarantine →
            exec (.dataSlotArrival (some cell)) s =
              .next (count (fun n => { n with withheld := min 65535 (n.withheld + 1) }))) ∧
          ((s.chan c).sync = .sync ∨ (s.chan c).sync = .suspended →
            (s.chan c).UnknownEpoch (headerEpochTag cell.header) →
            exec (.dataSlotArrival (some cell)) s = .next (countE.raiseSyncLoss c)))))

/-- A DATA or PAD cell in SYNC or SUSPENDED whose sequence is acceptable and whose tag is valid under the selected entry is
accepted: that entry's window takes the sequence, G counts, a running silence timer restarts, and the sync-loss count is
0. PAD is consumed; DATA in SUSPENDED counts withheld; DATA in SYNC joins the tail of the serving port's inbound queue,
deciphered and cut to its length, or with 32 cells there counts D and raises INBOUND_OVERRUN (R55, R67 to R69, R82, R83,
R139, R147). -/
def Obligations.AcceptedCellsAreDelivered : Prop :=
  ∀ (s : State) (c : Fin 48) (k : CellKind) (cell : Cell) (sel : Selection),
    s.arrivesIn (.data c) → (s.chan c).state = .active → (s.chan c).sync = .sync ∨ (s.chan c).sync = .suspended →
    isTraffic k c cell → (s.chan c).Selects (headerEpochTag cell.header) sel →
    sel.window.preCheck s.receive.jump (headerSequence cell.header).toNat = .acceptable →
    tagValid sel.key.keys.kTag cell = true →
    let q := (headerSequence cell.header).toNat
    let r := s.chan c
    let counts := { r.quality.counts with g := min 65535 (r.quality.counts.g + 1) }
    let accepted := fun n : Counts =>
      s.setChan c { r with
        current := if sel.isCurrent then r.current.map (fun e => { e with window := sel.window.accept q }) else r.current
        previous :=
          if sel.isCurrent then r.previous else r.previous.map (fun e => { e with window := sel.window.accept q })
        syncLoss := 0
        quality := { r.quality with
          counts := n, silence := if r.quality.silenceRunning then 0 else r.quality.silence } }
    let delivered : Delivered :=
      { channel := c, epoch := sel.key.epoch, sequence := q
        data := (bigEndian 48 (cellPayload cell ^^^ keystream sel.key 2 c (headerSequence cell.header)).toNat).take
          (headerLength cell.header).toNat }
    (k = .pad → exec (.dataSlotArrival (some cell)) s = .next (accepted counts)) ∧
    (k = .data → r.sync = .suspended → exec (.dataSlotArrival (some cell)) s =
      .next (accepted { counts with withheld := min 65535 (counts.withheld + 1) })) ∧
    (∀ o : Service, k = .data → r.sync = .sync → r.serving = some o →
      ((s.inbound o).length < 32 → exec (.dataSlotArrival (some cell)) s =
        .next ((accepted counts).setInbound o (s.inbound o ++ [delivered]))) ∧
      (32 ≤ (s.inbound o).length → exec (.dataSlotArrival (some cell)) s =
        .next ((accepted { counts with d := min 65535 (counts.d + 1) }).raise .inboundOverrun (some c) (some o.port) q)))

/-- Such a cell is rejected otherwise, its window unchanged: JUMP counts J and raises the sync-loss count; STALE and
DUPLICATE count R only; an invalid tag raises the sync-loss count, counts T, and is judged for a storm, and a SYNC_LOST and
a TAG_STORM that come of it are faults of one event (R66, R67, R72, R145, R146, R156; the event numbers are the model's
own, log entry 25). -/
def Obligations.RejectedCellsAreCounted : Prop :=
  ∀ (s : State) (c : Fin 48) (k : CellKind) (cell : Cell) (sel : Selection),
    s.arrivesIn (.data c) → (s.chan c).state = .active → (s.chan c).sync = .sync ∨ (s.chan c).sync = .suspended →
    isTraffic k c cell → (s.chan c).Selects (headerEpochTag cell.header) sel →
    let check := sel.window.preCheck s.receive.jump (headerSequence cell.header).toNat
    let count := fun f : Counts → Counts =>
      s.modChan c (fun r => { r with quality := { r.quality with counts := f r.quality.counts } })
    (check = .jump → exec (.dataSlotArrival (some cell)) s =
      .next ((count (fun n => { n with j := min 65535 (n.j + 1) })).raiseSyncLoss c)) ∧
    (check = .stale ∨ check = .duplicate →
      exec (.dataSlotArrival (some cell)) s = .next (count (fun n => { n with r := min 65535 (n.r + 1) }))) ∧
    (check = .acceptable → tagValid sel.key.keys.kTag cell = false →
      let raised := s.raiseSyncLoss c
      let counted := (raised.inEvent s.log.event).countT c
      exec (.dataSlotArrival (some cell)) s = .next (counted.inEvent (max raised.log.event counted.log.event)))

/-- The window pre-check, the window after an acceptance, and after a MARK of next-sequence field m: as in the tables of R66,
R68 and R77 (R61). -/
def Obligations.WindowFollowsItsTables : Prop :=
  ∀ (w : Window) (j q m : Nat),
    (w.high = none →
      w.preCheck j q = .acceptable ∧ w.accept q = { high := some q, seen := [q] } ∧
      (0 < m → (w.anchor m).high = some (m - 1) ∧ ∀ x, x ∈ (w.anchor m).seen ↔ x ≤ m - 1 ∧ m - 1 - x < 64)) ∧
    (∀ h, w.high = some h →
      (h < q → w.preCheck j q = (if j < q - h then .jump else .acceptable)) ∧
      (q ≤ h → w.preCheck j q = (if 64 ≤ h - q then .stale else if q ∈ w.seen then .duplicate else .acceptable)) ∧
      (h < q → (w.accept q).high = some q ∧ ∀ x, x ∈ (w.accept q).seen ↔ x = q ∨ (x ∈ w.seen ∧ q - x < 64)) ∧
      (q ≤ h → (w.accept q).high = some h ∧ ∀ x, x ∈ (w.accept q).seen ↔ x = q ∨ x ∈ w.seen) ∧
      (h < m - 1 → (w.anchor m).high = some (m - 1) ∧ ∀ x, x ∈ (w.anchor m).seen ↔ x ≤ m - 1 ∧ m - 1 - x < 64) ∧
      (m - 1 ≤ h → w.anchor m = w)) ∧
    w.anchor 0 = w

/-- Under one key entry no sequence is accepted twice: once a window that fits has accepted a sequence, no run of later
acceptances and MARKs, in any order, leaves it acceptable under any jump limit (R66, R68, R77). -/
def Obligations.NoSequenceIsAcceptedTwice : Prop :=
  ∀ (w : Window) (j q : Nat) (moves : List (Nat ⊕ Nat)), w.Fits → w.preCheck j q = .acceptable →
    let after := moves.foldl
      (fun v move =>
        match move with
        | .inl x => if v.preCheck j x = .acceptable then v.accept x else v
        | .inr m => v.anchor m)
      (w.accept q)
    after.Fits ∧ ∀ jump : Nat, after.preCheck jump q = .stale ∨ after.preCheck jump q = .duplicate

/-! ## Arrivals in CONTROL slots -/

/-- A CONTROL slot's arrival that is empty or IDLE does nothing; one of kind DATA, PAD or no kind, and a control cell that
fails CHECK or ZERO, names no channel or names a CLOSED one, counts stray; for a channel that is not CLOSED, an OFFER or
SWITCH, or a wrong sequence or length, counts E and nothing else; a sound REQUEST, RESYNC or MARK counts stray when the
channel is not ACTIVE, E under an unknown epoch, and T, judged for a storm, under an invalid tag (R45, R130 to R134,
R136). -/
def Obligations.ControlSlotArrivalsAreDispatched : Prop :=
  ∀ s : State, s.arrivesIn .control →
    let stray := { s with stray := min 65535 (s.stray + 1) }
    exec (.controlSlotArrival none) s = .next s ∧
    (∀ cell : Cell,
      (cellKindOf cell = some .idle → exec (.controlSlotArrival (some cell)) s = .next s) ∧
      (cellKindOf cell = none ∨ cellKindOf cell = some .data ∨ cellKindOf cell = some .pad →
        exec (.controlSlotArrival (some cell)) s = .next stray) ∧
      (∀ k, cellKindOf cell = some k → k.controlLength.isSome → (∀ c, ¬ namesChannel k c cell) →
        exec (.controlSlotArrival (some cell)) s = .next stray)) ∧
    (∀ (cell : Cell) (k : CellKind) (c : Fin 48), namesChannel k c cell →
      let countE := s.modChan c (fun r =>
        { r with quality := { r.quality with counts := { r.quality.counts with e := min 65535 (r.quality.counts.e + 1) } } })
      ((s.chan c).state = .closed → exec (.controlSlotArrival (some cell)) s = .next stray) ∧
      ((s.chan c).state ≠ .closed → k = .offer ∨ k = .switch ∨ ¬ isControl k c cell →
        exec (.controlSlotArrival (some cell)) s = .next countE) ∧
      (k = .request ∨ k = .resync ∨ k = .mark → isControl k c cell →
        ((s.chan c).state ≠ .closed → (s.chan c).state ≠ .active →
          exec (.controlSlotArrival (some cell)) s = .next stray) ∧
        ((s.chan c).state = .active → (s.chan c).UnknownEpoch (headerEpochTag cell.header) →
          exec (.controlSlotArrival (some cell)) s = .next countE) ∧
        (∀ sel, (s.chan c).state = .active → (s.chan c).Selects (headerEpochTag cell.header) sel →
          tagValid sel.key.keys.kTag cell = false →
          exec (.controlSlotArrival (some cell)) s = .next (s.countT c))))

/-- A sound ACCEPT: on a channel that is not KEYING or ACTIVE, or in IDLE, it counts stray; in AGREED and CUTOVER it is
discarded and not counted; in OFFERED it counts stray unless its epoch tag, epoch and nonce echo match the pending entry
and its shop nonce is not all zero. Then the new entry is derived from the master key, shop code and both nonces; an
invalid tag under it counts T, judged for a storm; a valid one counts G, keeps the derived keys, stops the offer timer,
queues the SWITCH in the RENEWAL family, and makes the channel AGREED (R54, R109, R110, R125, R132, R134). That its fields
are judged before its tag is checked is R109's and R132's order, chosen by the model against R58's words (log entry 24). -/
def Obligations.AcceptIsJudgedAndVerified : Prop :=
  ∀ (s : State) (c : Fin 48) (cell : Cell), s.arrivesIn .control → isControl .accept c cell →
    (s.chan c).state ≠ .closed →
    let stray := { s with stray := min 65535 (s.stray + 1) }
    let r := s.chan c
    let open' := r.state = .keying ∨ r.state = .active
    (¬ open' ∨ r.renewal = .idle → exec (.controlSlotArrival (some cell)) s = .next stray) ∧
    (open' → r.renewal = .agreed ∨ r.renewal = .cutover → exec (.controlSlotArrival (some cell)) s = .next s) ∧
    (∀ p, open' → r.renewal = .offered → r.pendingEntry = some p →
      let payload := cellPayload cell
      let shopNonce := payload.extractLsb' 248 64
      let fits := headerEpochTag cell.header = epochTag p.epoch ∧ payload.extractLsb' 376 8 = p.epoch ∧
        payload.extractLsb' 312 64 = p.nonce ∧ shopNonce ≠ 0
      (¬ fits → exec (.controlSlotArrival (some cell)) s = .next stray) ∧
      (∀ (m : Fin 4) (key : Block) (check : BitVec 24) (shop : BitVec 32), fits → r.master = some m →
        s.masters[m] = .loaded key check → r.shop = some shop →
        let keys := (deriveEntry key c p.epoch shop p.nonce shopNonce).keys
        (tagValid keys.kTag cell = false → exec (.controlSlotArrival (some cell)) s = .next (s.countT c)) ∧
        (tagValid keys.kTag cell = true → exec (.controlSlotArrival (some cell)) s =
          .next (s.setChan c { r with
            pendingEntry := some { p with keys := some keys }
            pendingCells := enqueue (.switch p.epoch) r.pendingCells
            offerTimer := none
            renewal := .agreed
            quality := { r.quality with
              counts := { r.quality.counts with g := min 65535 (r.quality.counts.g + 1) }
              silence := if r.quality.silenceRunning then 0 else r.quality.silence } }))))

/-- A REQUEST, RESYNC or MARK whose tag is valid under the selected entry of an ACTIVE channel counts G, whatever follows.
A RESYNC queues a MARK of its challenge. A MARK under the current entry that answers the live challenge and names the
current epoch re-anchors the window, ends the exchange and makes the channel SUSPENDED; any other counts stray. A REQUEST
in IDLE, with hold-off 0 and a key age of at least 8 × T_offer, starts a renewal, the flag keeping a cause it has and
taking SHOP otherwise; any other counts stray (R77, R81, R118, R134 to R136). -/
def Obligations.ValidControlCellsAreHandled : Prop :=
  ∀ (s : State) (c : Fin 48) (k : CellKind) (cell : Cell) (sel : Selection), s.arrivesIn .control →
    isControl k c cell → (s.chan c).state = .active → (s.chan c).Selects (headerEpochTag cell.header) sel →
    tagValid sel.key.keys.kTag cell = true →
    let r := s.chan c
    let counted := { r with
      quality := { r.quality with
        counts := { r.quality.counts with g := min 65535 (r.quality.counts.g + 1) }
        silence := if r.quality.silenceRunning then 0 else r.quality.silence } }
    let g := s.setChan c counted
    let stray := { g with stray := min 65535 (s.stray + 1) }
    let payload := cellPayload cell
    (k = .resync → exec (.controlSlotArrival (some cell)) s =
      .next (s.setChan c { counted with pendingCells := enqueue (.mark (payload.extractLsb' 320 64)) r.pendingCells })) ∧
    (k = .mark →
      let answers := sel.isCurrent = true ∧ r.challenge = some (payload.extractLsb' 320 64) ∧
        payload.extractLsb' 312 8 = sel.key.epoch
      (answers → exec (.controlSlotArrival (some cell)) s =
        .next (s.setChan c { counted with
          current := r.current.map (fun e => { e with window := e.window.anchor (payload.extractLsb' 288 24).toNat })
          pendingCells := r.pendingCells.filter (fun x => decide (x.family ≠ .challenge))
          challenge := none
          resyncRetries := 0
          resyncTimer := none
          sync := .suspended
          syncLoss := 0 })) ∧
      (¬ answers → exec (.controlSlotArrival (some cell)) s = .next stray)) ∧
    (k = .request → ∀ e, r.current = some e →
      let honoured := r.renewal = .idle ∧ r.holdOff = 0 ∧ 8 * s.renewalParams.tOffer ≤ e.age
      (honoured → exec (.controlSlotArrival (some cell)) s =
        .next (s.setChan c { counted with
          wanted := some (r.wanted.getD .shop)
          renewal := .offered
          pendingEntry := some { epoch := epochAfter e.key.epoch, nonce := s.nextNonce, keys := none }
          pendingCells := enqueue (.offer (epochAfter e.key.epoch) s.nextNonce) r.pendingCells
          renewRetries := s.renewalParams.retryLimit
          offerTimer := none }).afterDraw) ∧
      (¬ honoured → exec (.controlSlotArrival (some cell)) s = .next stray))

/-! ## Triggers and the events of the part's own -/

/-- A trigger reaches KEYING and ACTIVE channels only. A noting cause sets a clear flag and leaves a set one; a forcing cause
becomes the flag's cause. In IDLE, with the hold-off at 0 or a forcing cause on the flag, a renewal starts in the same
event: the next epoch, a drawn nonce that is not all zero, the retry limit's retries, a stopped timer, and its OFFER
queued. A queued cell takes the place of its family's entry, or the tail of the list (R98, R100, R101, R103, R105,
R125). -/
def Obligations.TriggersStartRenewals : Prop :=
  ∀ (s : State) (c : Fin 48) (k : Cause),
    let r := s.chan c
    let forcing := fun x : Cause => x = .command ∨ x = .resync ∨ x = .storm
    let cause := if forcing k then k else r.wanted.getD k
    let noted := { r with wanted := some cause }
    let epoch : BitVec 8 := match r.current with
      | some e => if e.key.epoch = 255 then 1 else e.key.epoch + 1
      | none => 1
    (r.state ≠ .keying → r.state ≠ .active → s.trigger c k = s) ∧
    (r.state = .keying ∨ r.state = .active →
      (r.renewal = .idle → r.holdOff = 0 ∨ forcing cause →
        s.nextNonce ≠ 0 ∧
        s.trigger c k =
          { s.setChan c { noted with
              renewal := .offered
              pendingEntry := some { epoch := epoch, nonce := s.nextNonce, keys := none }
              pendingCells := enqueue (.offer epoch s.nextNonce) r.pendingCells
              renewRetries := s.renewalParams.retryLimit
              offerTimer := none } with
            nonceIndex := s.nonceIndex + 1 }) ∧
      (r.renewal ≠ .idle ∨ (r.holdOff ≠ 0 ∧ ¬ forcing cause) → s.trigger c k = s.setChan c noted)) ∧
    (∀ (x : ControlCell) (front back : List ControlCell) (y : ControlCell), (∀ z ∈ front, z.family ≠ x.family) →
      (∀ z ∈ back, z.family ≠ x.family) →
      (y.family = x.family → enqueue x (front ++ y :: back) = front ++ x :: back) ∧
      (back = [] → enqueue x front = front ++ [x]))

/-- LOSS_OF_SYNC and TAG_STORM. An ACTIVE channel in SYNC or SUSPENDED whose sync-loss count is at the threshold becomes
HUNT with SYNC_LOST and a fresh challenge queued (R73); a channel whose storm mark is clear and whose T is at the storm
limit has the mark set, and when ACTIVE and not QUARANTINE becomes QUARANTINE, its exchange ended, with TAG_STORM and a
STORM trigger (R145, R146). A raise of either count does it in the same event (R72, R145). Alone, a row does it with no
raise where the record stands so, also where a lowered threshold or limit has left it so, and nothing otherwise: the
model's choice (log entry 5). -/
def Obligations.SyncLossAndStormsAct : Prop :=
  ∀ (s : State) (c : Fin 48), s.resetLine = false →
    let r := s.chan c
    let port := r.serving.map Service.port
    let epoch := match r.current with | some e => e.key.epoch.toNat | none => 0
    let lost := r.state = .active ∧ (r.sync = .sync ∨ r.sync = .suspended) ∧ s.receive.threshold ≤ r.syncLoss
    let storm := r.quality.storm = false ∧ s.qualityParams.stormLimit ≤ r.quality.counts.t
    (lost → exec (.lossOfSync c) s =
      .next (((s.raise .syncLost (some c) port epoch).setChan c { r with
        sync := .hunt
        syncLoss := 0
        challenge := some s.nextNonce
        resyncRetries := s.renewalParams.retryLimit
        resyncTimer := none
        pendingCells := enqueue (.resync s.nextNonce) r.pendingCells }).afterDraw)) ∧
    (¬ lost → exec (.lossOfSync c) s = .next s) ∧
    (r.sync = .sync ∨ r.sync = .suspended →
      exec (.lossOfSync c) (s.setChan c { r with syncLoss := min 15 (r.syncLoss + 1) }) = .next (s.raiseSyncLoss c)) ∧
    (r.sync = .hunt ∨ r.sync = .quarantine → s.raiseSyncLoss c = s) ∧
    (storm → r.state = .active → r.sync ≠ .quarantine → exec (.tagStorm c) s =
      .next (((s.setChan c { r with
        sync := .quarantine
        syncLoss := 0
        challenge := none
        resyncRetries := 0
        resyncTimer := none
        pendingCells := r.pendingCells.filter (fun x => decide (x.family ≠ .challenge))
        quality := { r.quality with storm := true } }).raise .tagStorm (some c) port r.quality.counts.t).trigger c .storm)) ∧
    (storm → r.state ≠ .active ∨ r.sync = .quarantine →
      exec (.tagStorm c) s = .next (s.setChan c { r with quality := { r.quality with storm := true } })) ∧
    (¬ storm → exec (.tagStorm c) s = .next s) ∧
    (exec (.tagStorm c) (s.setChan c { r with
      quality := { r.quality with counts := { r.quality.counts with t := min 65535 (r.quality.counts.t + 1) } } }) =
        .next (s.countT c))

/-- HARD_LIMIT, PRESET_TRIGGER, AGE_TRIGGER, KEYING_ENTRY, CLOSING_END and HOLD_OFF_END, alone: each does its rule's effect
where the record meets the rule's condition and nothing otherwise (R11, R14, R21, R22, R102, R104, R116). That they may
come alone, and that HOLD_OFF_END is the last count of the hold-off, is the model's choice (log entry 5). -/
def Obligations.RecordEventsActOnTheirConditions : Prop :=
  ∀ (s : State) (c : Fin 48), s.resetLine = false →
    let r := s.chan c
    (∀ e, r.current = some e →
      (r.state = .active → e.nextTx = 16776960 → r.held = false → exec (.hardLimit c) s =
        .next ((s.setChan c { r with held := true }).raise .hardLimit (some c) (r.serving.map Service.port)
          e.key.epoch.toNat)) ∧
      (r.state ≠ .active ∨ e.nextTx ≠ 16776960 ∨ r.held = true → exec (.hardLimit c) s = .next s) ∧
      (r.state = .active → r.preset < e.nextTx → exec (.presetTrigger c) s = .next (s.trigger c .preset)) ∧
      (r.state ≠ .active ∨ e.nextTx ≤ r.preset → exec (.presetTrigger c) s = .next s) ∧
      (r.ageLimit ≠ 0 → r.ageLimit ≤ e.age → exec (.ageTrigger c) s = .next (s.trigger c .age)) ∧
      (r.ageLimit = 0 ∨ e.age < r.ageLimit → exec (.ageTrigger c) s = .next s)) ∧
    (r.current = none → exec (.hardLimit c) s = .next s ∧ exec (.presetTrigger c) s = .next s ∧
      exec (.ageTrigger c) s = .next s) ∧
    (∀ (m : Fin 4) (key : Block) (check : BitVec 24) (shop : BitVec 32), r.state = .opening → r.master = some m →
      s.masters[m] = .loaded key check → r.shop = some shop → exec (.keyingEntry c) s =
        .next ((s.setChan c { r with
          state := .keying
          base := some (baseEntry key c shop)
          quality := { r.quality with silenceRunning := true, silence := 0 } }).trigger c .initial)) ∧
    (r.state ≠ .opening → exec (.keyingEntry c) s = .next s) ∧
    (r.state = .closing → exec (.closingEnd c) s = .next (s.setChan c Channel.closedValues)) ∧
    (r.state ≠ .closing → exec (.closingEnd c) s = .next s) ∧
    (2 ≤ r.holdOff → exec (.holdOffEnd c) s = .next s) ∧
    (r.holdOff ≤ 1 →
      (∀ k, r.wanted = some k → r.renewal = .idle → r.state = .keying ∨ r.state = .active →
        exec (.holdOffEnd c) s = .next ((s.setChan c { r with holdOff := 0 }).trigger c k)) ∧
      (r.wanted = none ∨ r.renewal ≠ .idle ∨ (r.state ≠ .keying ∧ r.state ≠ .active) →
        exec (.holdOffEnd c) s = .next (s.setChan c { r with holdOff := 0 })))

/-- OFFER_TIMER_EXPIRY, RESYNC_TIMER_EXPIRY and CUTOVER_TIMER_EXPIRY: on a LOCKED trunk, a timer at its last count expires.
With retries left the OFFER or RESYNC is queued again and one retry is spent. With none left, the renewal fails, with
RENEW_FAIL, hold-off 8 × T_offer and the first standing cause, or the exchange ends, with RESYNC_FAIL and a RESYNC
trigger. The cutover erases the previous entry and returns to IDLE, where a set flag may start a renewal. While the trunk
is not LOCKED nothing happens (R76, R106 to R108, R115, R117). That the rows come alone, and are the last count, is the
model's choice (log entry 5). -/
def Obligations.TimersExpire : Prop :=
  ∀ (s : State) (c : Fin 48), s.resetLine = false →
    let r := s.chan c
    let port := r.serving.map Service.port
    let locked := s.timebase.trunk = .locked
    (¬ locked → exec (.offerTimerExpiry c) s = .next s ∧ exec (.resyncTimerExpiry c) s = .next s ∧
      exec (.cutoverTimerExpiry c) s = .next s) ∧
    (r.offerTimer = none ∨ (∃ n, r.offerTimer = some n ∧ 2 ≤ n) → exec (.offerTimerExpiry c) s = .next s) ∧
    (r.resyncTimer = none ∨ (∃ n, r.resyncTimer = some n ∧ 2 ≤ n) → exec (.resyncTimerExpiry c) s = .next s) ∧
    (r.previous = none ∨ (∃ p, r.previous = some p ∧ 2 ≤ p.cutover) → exec (.cutoverTimerExpiry c) s = .next s) ∧
    (∀ (n : Nat) (p : PendingEntry), locked → r.offerTimer = some n → n ≤ 1 → r.pendingEntry = some p →
      (1 ≤ r.renewRetries → exec (.offerTimerExpiry c) s =
        .next (s.setChan c { r with
          pendingCells := enqueue (.offer p.epoch p.nonce) r.pendingCells
          renewRetries := r.renewRetries - 1
          offerTimer := none })) ∧
      (r.renewRetries = 0 → exec (.offerTimerExpiry c) s =
        .next ((s.raise .renewFail (some c) port p.epoch.toNat).setChan c { r with
          pendingEntry := none
          pendingCells := r.pendingCells.filter (fun x => decide (x.family ≠ .renewal))
          offerTimer := none
          renewal := .idle
          holdOff := 8 * s.renewalParams.tOffer
          wanted :=
            if r.state = .keying then some .initial
            else
              match r.current with
              | some e =>
                if r.ageLimit ≠ 0 ∧ r.ageLimit ≤ e.age then some .age
                else if r.preset < e.nextTx then some .preset
                else none
              | none => none }))) ∧
    (∀ (n : Nat) (x : BitVec 64), locked → r.resyncTimer = some n → n ≤ 1 → r.challenge = some x →
      (1 ≤ r.resyncRetries → exec (.resyncTimerExpiry c) s =
        .next (s.setChan c { r with
          pendingCells := enqueue (.resync x) r.pendingCells
          resyncRetries := r.resyncRetries - 1
          resyncTimer := none })) ∧
      (r.resyncRetries = 0 → exec (.resyncTimerExpiry c) s =
        .next (((s.setChan c { r with
          pendingCells := r.pendingCells.filter (fun x => decide (x.family ≠ .challenge))
          challenge := none
          resyncTimer := none }).raise .resyncFail (some c) port s.renewalParams.retryLimit).trigger c .resync))) ∧
    (∀ p, locked → r.previous = some p → p.cutover ≤ 1 →
      let ended := s.setChan c { r with previous := none, renewal := .idle }
      (∀ k, r.wanted = some k → r.state = .keying ∨ r.state = .active → r.holdOff = 0 ∨ k.forcing = true →
        exec (.cutoverTimerExpiry c) s = .next (ended.trigger c k)) ∧
      (r.wanted = none ∨ (r.state ≠ .keying ∧ r.state ≠ .active) ∨
          (r.holdOff ≠ 0 ∧ ∀ k, r.wanted = some k → k.forcing = false) →
        exec (.cutoverTimerExpiry c) s = .next ended))

/-- SILENCE_LIMIT: on a LOCKED trunk, the count that brings a running silence timer to the limit raises SILENT with that
count and closes the channel at once; its delivered cells leave its serving port's queue, and every other record is
unchanged. PRESENCE_EXPIRY: the count that brings a PRESENT port's timer to the presence period makes it ABSENT with the
timer at 0 and raises PORT_ABSENT. Otherwise nothing happens (R4, R12, R15, R147, R148, R163, R173). That the rows come
alone, and are the last count, is the model's choice (log entry 5). -/
def Obligations.SilenceAndPresenceEnd : Prop :=
  ∀ (s : State) (c : Fin 48) (p : Port), s.resetLine = false →
    let r := s.chan c
    let count := min 65535 (r.quality.silence + 1)
    let due := s.timebase.trunk = .locked ∧ r.quality.silenceRunning = true ∧ s.qualityParams.silenceLimit ≤ count
    let l := s.link p
    let absent := l.present = true ∧ s.presencePeriod ≤ min 65535 (l.timer + 1)
    (∀ o : Service, due → r.serving = some o → exec (.silenceLimit c) s =
      .next (((s.setChan c Channel.closedValues).setInbound o
        ((s.inbound o).filter (fun x => decide (x.channel ≠ c)))).raise .silent (some c) (some o.port) count)) ∧
    (¬ due → exec (.silenceLimit c) s = .next s) ∧
    (absent → exec (.presenceExpiry p) s =
      .next ((s.setLink p { l with present := false, timer := 0 }).raise .portAbsent none (some p) s.presencePeriod)) ∧
    (¬ absent → exec (.presenceExpiry p) s = .next s)

/-- PERIOD_END, where the period timer's next count reaches P: the timer restarts, and every channel that is not CLOSED has
its counts copied, its score 1,000 × G / N and smoothed score (3 × Qs + Q + 2) / 4 computed when N is not 0, its low flag
judged against the thresholds, and its counts and storm mark cleared, in whatever order the channels come; nothing else of
any record changes, and with no low flag changed no fault is raised. Otherwise nothing happens (R140 to R143). That the
row comes alone is the model's choice (log entry 5), and so is that the faults of the changed flags are raised in the order
that the command names (log entry 6), which R141 leaves open. -/
def Obligations.PeriodEndsScoreEveryChannel : Prop :=
  ∀ (s : State) (order : List TickWork), s.resetLine = false →
    (min 65535 (s.periodTimer + 1) < s.qualityParams.period → exec (.periodEnd order) s = .next s) ∧
    (s.qualityParams.period ≤ min 65535 (s.periodTimer + 1) →
      let n := fun v : Quality => v.counts.g + v.counts.t + v.counts.j + v.counts.e + v.counts.x
      let score := fun v : Quality => 1000 * v.counts.g / n v
      let smoothed := fun v : Quality => if n v = 0 then v.smoothed else (3 * v.smoothed + score v + 2) / 4
      let low := fun v : Quality =>
        if v.low then decide (smoothed v < s.qualityParams.high) else decide (smoothed v < s.qualityParams.low)
      let changed := fun c : Fin 48 =>
        decide ((s.chan c).state ≠ .closed) && (low (s.chan c).quality != (s.chan c).quality.low)
      ∃ t, exec (.periodEnd order) s = .next t ∧
        (∀ c : Fin 48, t.chan c =
          if (s.chan c).state = .closed then s.chan c
          else
            { s.chan c with
              quality :=
                { (s.chan c).quality with
                  counts := ⟨0, 0, 0, 0, 0, 0, 0, 0, 0⟩
                  last := (s.chan c).quality.counts
                  lastScore :=
                    if n (s.chan c).quality = 0 then (s.chan c).quality.lastScore else some (score (s.chan c).quality)
                  smoothed := smoothed (s.chan c).quality
                  low := low (s.chan c).quality
                  storm := false } }) ∧
        t = { s with channels := t.channels, periodTimer := 0, log := t.log } ∧
        ∃ cs : List (Fin 48), cs.Perm ((List.finRange 48).filter changed) ∧
          (∀ os : List (Fin 48), order = os.map TickWork.score → os.Nodup → (∀ c, changed c = true → c ∈ os) →
            cs = os.filter changed) ∧
          t.log = (cs.foldl
            (fun u c => u.raise (if low (s.chan c).quality then .qualityLow else .qualityOk) (some c)
              ((s.chan c).serving.map Service.port) (smoothed (s.chan c).quality)) s).log)

/-! ## The cells the part forms -/

/-- The four uses of B, byte by byte: the key derivation of R54 with its base entry, the keystream of R55, the tag chain and
the tag check of R56, and the check value of R60, B itself being a free value (log entry 1). A header is written and read
by the layout of R49 with the kind codes of R50; the six checks of R51 are spelled in header bits, with R50's length of
each kind, and a payload is its three blocks. Every cell the part forms for a channel has a header that passes the six
checks of R51 for its kind and names the channel, and a tag that is valid under the key it was formed with; a DATA or PAD
cell's payload is its plaintext under the keystream of direction 1, whose three blocks differ from each other and from
every block of another direction, channel, epoch or sequence under the same key; and IDLE is the one cell whose header
bytes 0 to 6 are all 0, its check byte 255, and its payload and tag bytes all 0, a cell of kind IDLE that passes CHECK and
ZERO (R48 to R60). -/
def Obligations.FormedCellsAreSound : Prop :=
  -- CHECK and ZERO of R51, the kind that a code names, and the length of a kind whose length is fixed (R50)
  let sumsTo255 := fun h : BitVec 64 =>
    (h.extractLsb' 56 8 + h.extractLsb' 48 8 + h.extractLsb' 40 8 + h.extractLsb' 32 8 + h.extractLsb' 24 8 +
      h.extractLsb' 16 8 + h.extractLsb' 8 8 + h.extractLsb' 0 8 : BitVec 8) = 255
  let zeros := fun h : BitVec 64 => h.extractLsb' 56 2 = 0 ∧ h.extractLsb' 54 2 = 0 ∧ h.extractLsb' 8 8 = 0
  let named := fun code : BitVec 4 =>
    (([(0, .idle), (1, .data), (2, .pad), (8, .offer), (9, .accept), (10, .switch), (11, .request), (12, .resync),
      (13, .mark)] : List (BitVec 4 × CellKind)).find? (fun x => x.1 = code)).map (·.2)
  let lengthOf := fun k : CellKind =>
    match k with
    | .idle => 0
    | .data => 0
    | .pad => 0
    | .offer => 13
    | .accept => 17
    | .switch => 1
    | .request => 1
    | .resync => 8
    | .mark => 12
  (∀ (m : Block) (c : Fin 48) (epoch : BitVec 8) (shop : BitVec 32) (partNonce shopNonce : BitVec 64),
    let t1 := Config.blockPerm m (BitVec.ofNat 8 c.val ++ epoch ++ shop ++ partNonce ++ 0#16)
    let t2 := Config.blockPerm m (t1 ^^^ (shopNonce ++ 0#64))
    deriveEntry m c epoch shop partNonce shopNonce =
      { epoch := epoch
        keys :=
          { kEnc := Config.blockPerm m (t2 ^^^ (1#8 ++ 0#120)), kTag := Config.blockPerm m (t2 ^^^ (2#8 ++ 0#120)) } } ∧
    baseEntry m c shop = deriveEntry m c 0 shop 0 0 ∧
    checkValue m = (Config.blockPerm m 0).extractLsb' 104 24) ∧
  (∀ (key : KeyEntry) (direction : BitVec 8) (c : Fin 48) (sequence : BitVec 24),
    let block := fun j : BitVec 8 =>
      Config.blockPerm key.keys.kEnc (direction ++ BitVec.ofNat 8 c.val ++ key.epoch ++ sequence ++ j ++ 0#72)
    (∀ j, keystreamBlock key direction c sequence j = block j) ∧
      keystream key direction c sequence = block 0 ++ block 1 ++ block 2) ∧
  (∀ (kTag : Block) (cell : Cell),
    let x0 := Config.blockPerm kTag (cell.header ++ 0#64)
    let x1 := Config.blockPerm kTag (x0 ^^^ cell.c0)
    let x2 := Config.blockPerm kTag (x1 ^^^ cell.c1)
    let x3 := Config.blockPerm kTag (x2 ^^^ cell.c2)
    tagOf kTag cell.header cell.c0 cell.c1 cell.c2 = x3.extractLsb' 64 64 ∧
      (tagValid kTag cell = true ↔ cell.tag = x3.extractLsb' 64 64)) ∧
  (∀ (k : CellKind) (epoch : BitVec 8) (c : Fin 48) (sequence : BitVec 24) (length : BitVec 8),
    let code : BitVec 4 :=
      match k with
      | .idle => 0
      | .data => 1
      | .pad => 2
      | .offer => 8
      | .accept => 9
      | .switch => 10
      | .request => 11
      | .resync => 12
      | .mark => 13
    ∃ check : Byte,
      header k epoch c sequence length =
        code ++ epoch.extractLsb' 0 2 ++ 0#2 ++ 0#2 ++ BitVec.ofNat 6 c.val ++ sequence ++ length ++ 0#8 ++ check ∧
      checkPasses (header k epoch c sequence length) = true) ∧
  (∀ h : BitVec 64,
    headerKindCode h = h.extractLsb' 60 4 ∧ headerEpochTag h = h.extractLsb' 58 2 ∧
      headerChannel h = h.extractLsb' 48 6 ∧ headerSequence h = h.extractLsb' 24 24 ∧
      headerLength h = h.extractLsb' 16 8 ∧
      (checkPasses h = true ↔ sumsTo255 h) ∧ (zeroPasses h = true ↔ zeros h)) ∧
  (∀ cell : Cell,
    cellKindOf cell = named (cell.header.extractLsb' 60 4) ∧ cellPayload cell = cell.c0 ++ cell.c1 ++ cell.c2) ∧
  (∀ (k : CellKind) (epoch : BitVec 8),
    epochTag epoch = epoch.extractLsb' 0 2 ∧
      k.controlLength = if k = .idle ∨ k = .data ∨ k = .pad then none else some (lengthOf k)) ∧
  (∀ (k : CellKind) (h : BitVec 64), k ≠ .idle →
    (headerSound k h = true ↔
      sumsTo255 h ∧ zeros h ∧ named (h.extractLsb' 60 4) ≠ none ∧ (h.extractLsb' 48 6).toNat ≤ 47 ∧
        (if k = .data ∨ k = .pad then (h.extractLsb' 24 24).toNat < 16776960 else h.extractLsb' 24 24 = 0) ∧
        (if k = .data then 1 ≤ (h.extractLsb' 16 8).toNat ∧ (h.extractLsb' 16 8).toNat ≤ 48
          else (h.extractLsb' 16 8).toNat = lengthOf k))) ∧
  (∀ (k : CellKind) (key : KeyEntry) (c : Fin 48) (sequence length : Nat) (plain : BitVec 384),
    (k = .data ∧ 1 ≤ length ∧ length ≤ 48) ∨ (k = .pad ∧ length = 0) → sequence < 16776960 →
    let cell := trafficCell k key c sequence length plain
    isTraffic k c cell ∧ headerEpochTag cell.header = epochTag key.epoch ∧
      (headerSequence cell.header).toNat = sequence ∧ (headerLength cell.header).toNat = length ∧
      tagValid key.keys.kTag cell = true ∧
      cellPayload cell ^^^ keystream key 1 c (BitVec.ofNat 24 sequence) = plain) ∧
  (∀ (k : CellKind) (key : KeyEntry) (c : Fin 48) (payload : BitVec 384), k.controlLength.isSome →
    let cell := controlCell k key c payload
    isControl k c cell ∧ headerSound k cell.header = true ∧ headerEpochTag cell.header = epochTag key.epoch ∧
      tagValid key.keys.kTag cell = true ∧ cellPayload cell = payload) ∧
  (∀ (keys : KeyPair) (e e' d d' j j' : BitVec 8) (c c' : Fin 48) (q q' : BitVec 24),
    keystreamBlock { epoch := e, keys := keys } d c q j = keystreamBlock { epoch := e', keys := keys } d' c' q' j' →
    e = e' ∧ d = d' ∧ c = c' ∧ q = q' ∧ j = j') ∧
  idleCell = { header := 255, c0 := 0, c1 := 0, c2 := 0, tag := 0 } ∧
  cellKindOf idleCell = some .idle ∧ checkPasses idleCell.header = true ∧ zeroPasses idleCell.header = true

/-! ## Laws that every step keeps -/

/-- Records whose parts fit each other, each open channel bound to a LOADED slot, and the part-wide parameters in their
ranges (which PartWideStateStaysInRange keeps): from such a state every step answers a next state, whose records are so
again. So every cell that stands in a pending list can be formed, since its tagging entry is present (R2, R4, R59, R74,
R88, R97, R124, R127). The premise on the parameters rules out states that no run reaches: with a storm limit of 0,
TAG_STORM alone would mark a CLOSED record. -/
def Obligations.RecordsStaySoundAndNoStepStops : Prop :=
  ∀ s : State, s.RecordsSound → s.ParamsSound → ∃ t, step s = .next t ∧ t.RecordsSound

/-- After every step each inbound queue holds at most 32 cells, each of an ACTIVE channel that the queue's port serves, when
it did before; and every delivered cell has an epoch of 1 to 255, a sequence of at most 16,776,959 and 1 to 48 data bytes,
when all had before and the records' epochs fit (R12, R82, R85, R98). -/
def Obligations.InboundQueuesStaySound : Prop :=
  ∀ s t : State, step s = .next t →
    (s.InboundSound → t.InboundSound) ∧
    ((∀ c, (s.chan c).EpochsFit) → s.CellsInRange → t.CellsInRange)

/-- After every step the fault log holds at most 64 records with consecutive numbers up to the next record number, repeat
counts of 1 to 65,535 and a lost counter of at most 65,535, and every waiting fault is of an event before the next one, so
that faults of two events never count as one event's, when it did before (R153, R154, R156 to R159; the event numbers are
the model's own, log entry 25). -/
def Obligations.FaultLogStaysSound : Prop :=
  ∀ s t : State, s.log.Sound → step s = .next t → t.log.Sound

/-- After every step the part-wide parameters, the timebase with its acquire count and phase, the slot sequencer and the
port links stay in their ranges, when they were before (R26, R29, R36, R40, R86, R99, R150, R167, R168, R173, R178). -/
def Obligations.PartWideStateStaysInRange : Prop :=
  ∀ s t : State, s.TrunkSound → s.ParamsSound → (∀ p, (s.link p).Sound) → step s = .next t →
    t.TrunkSound ∧ t.ParamsSound ∧ ∀ p, (t.link p).Sound

/-- After every step each receive window fits, no next tx sequence has passed the hard limit, and a channel is HELD exactly
when it stands there, when that held before (R5, R21, R61). -/
def Obligations.WindowsAndSequencesStayWithinLimits : Prop :=
  ∀ s t : State, (∀ c, (s.chan c).WindowsFit ∧ (s.chan c).SequenceFits) → step s = .next t →
    ∀ c, (t.chan c).WindowsFit ∧ (t.chan c).SequenceFits

/-- After every step the epochs of each record follow one another and its other fields stay in their ranges, when they did
before, the records being sound and the parameters in range (R1, R6, R7, R18, R72, R74, R97, R98, R138). -/
def Obligations.EpochsAndFieldsStayInRange : Prop :=
  ∀ s t : State, s.RecordsSound → s.ParamsSound → (∀ c, (s.chan c).EpochsFit ∧ (s.chan c).InRange) → step s = .next t →
    ∀ c, (t.chan c).EpochsFit ∧ (t.chan c).InRange

/-- The master key slots change in LOAD_MASTER and ERASE_MASTER from port K and at power-on only: no other command, and no
reset, changes them (R87, R96, R171, R180). -/
def Obligations.OnlyPortKChangesTheMasterKeys : Prop :=
  ∀ (i : Instr) (s t : State), exec i s = .next t → t.masters ≠ s.masters →
    (∃ tag slot key, i = .loadMaster .k tag slot key) ∨ (∃ tag slot, i = .eraseMaster .k tag slot) ∨ i = .powerOn

/-- The state after power-on is sound in every law above, and holds the values that the manual gives for power-on (R4, R29,
R38, R40, R86, R87, R99, R127, R136, R140, R150, R154, R155, R168, R169, R172, R173, R178, R180). Its slot number, kept
entry, line, reset line, nonce place and log turns are the model's choices (log entries 2, 11, 12, 17, 25), and nothing here rests on
them but that no entry is kept. -/
def Obligations.ResetStateIsSound : Prop :=
  let link : PortLink := { queue := [], framing := 0, present := false, timer := 0, cursor := 1, mask := 7 }
  State.reset.Sound ∧
    (∀ c : Fin 48, State.reset.chan c =
      { state := .closed, serving := none, master := none, shop := none, current := none, previous := none,
        pendingEntry := none, base := none, renewal := .idle, wanted := none, holdOff := 0, offerTimer := none,
        renewRetries := 0, sync := .sync, syncLoss := 0, challenge := none, resyncRetries := 0, resyncTimer := none,
        held := false, outbound := [], pendingCells := [], preset := 8388608, ageLimit := 0,
        quality :=
          { counts := ⟨0, 0, 0, 0, 0, 0, 0, 0, 0⟩, last := ⟨0, 0, 0, 0, 0, 0, 0, 0, 0⟩, lastScore := none,
            smoothed := 1000, low := false, storm := false, silenceRunning := false, silence := 0 } }) ∧
    (∀ m : Fin 4, State.reset.masters[m] = .empty) ∧
    State.reset.timebase = { trunk := .lost, phase := 0, beats := 0, acquire := 0, deviation := 0, tick := 0 } ∧
    (∀ n : Fin 64, State.reset.sequencer.map[n] = { inForce := .unused, pending := none }) ∧
    State.reset.sequencer.frame = { slots := 32, beatLen := 8000, slip := 40, loss := 3 } ∧
    State.reset.sequencer.pendingFrame = none ∧
    State.reset.receive = { jump := 4096, threshold := 4 } ∧
    State.reset.renewalParams = { tOffer := 64, retryLimit := 3, cutover := 16 } ∧
    State.reset.qualityParams = { period := 1024, low := 900, high := 950, stormLimit := 32, silenceLimit := 2048 } ∧
    State.reset.presencePeriod = 512 ∧ State.reset.inboundA = [] ∧ State.reset.inboundB = [] ∧
    State.reset.lastChannel = 0 ∧ State.reset.stray = 0 ∧ State.reset.periodTimer = 0 ∧
    State.reset.log.records = [] ∧ State.reset.log.next = 1 ∧ State.reset.log.lost = 0 ∧ State.reset.log.waiting = [] ∧
    State.reset.portA = link ∧ State.reset.portB = link ∧ State.reset.portK = link ∧ State.reset.lastPort = .a ∧
    State.reset.startup = true ∧ State.reset.halted = false
end

