-- ==== Sys2Proof/Laws/Codec.lean ====
section
/-! SUPPORT. Numbers as bytes: what writing a number and reading it back give (R165, R166). -/

namespace Sys2Proof

@[simp] theorem bigEndian_length (width value : Nat) : (bigEndian width value).length = width := by
  induction width with
  | zero => rfl
  | succ n ih => simp [bigEndian, ih]

theorem ofBigEndian_foldl (bytes : List Byte) (n : Nat) :
    bytes.foldl (fun n b => n * 256 + b.toNat) n = n * 256 ^ bytes.length + ofBigEndian bytes := by
  induction bytes generalizing n with
  | nil => simp [ofBigEndian]
  | cons b rest ih =>
    have h0 := ih b.toNat
    have h1 := ih (n * 256 + b.toNat)
    simp only [ofBigEndian, List.foldl_cons, List.length_cons, Nat.zero_mul, Nat.zero_add] at h0 h1 ⊢
    rw [h1, h0]
    ring

/-- Reading back a number that fits its width gives the number. -/
theorem ofBigEndian_bigEndian (width value : Nat) (h : value < 256 ^ width) :
    ofBigEndian (bigEndian width value) = value := by
  suffices H : ∀ w v, ofBigEndian (bigEndian w v) = v % 256 ^ w by rw [H, Nat.mod_eq_of_lt h]
  intro w
  induction w with
  | zero => intro v; simp [bigEndian, ofBigEndian, Nat.mod_one]
  | succ n ih =>
    intro v
    have hf := ofBigEndian_foldl (bigEndian n v) (BitVec.ofNat 8 (v / 256 ^ n)).toNat
    simp only [bigEndian, ofBigEndian, List.foldl_cons, Nat.zero_mul, Nat.zero_add] at hf ⊢
    rw [hf, bigEndian_length]
    have hn := ih v
    simp only [ofBigEndian] at hn ⊢
    have h8 : (BitVec.ofNat 8 (v / 256 ^ n)).toNat = v / 256 ^ n % 256 := BitVec.toNat_ofNat _ _
    have hm : v % (256 ^ n * 256) = v % 256 ^ n + 256 ^ n * (v / 256 ^ n % 256) := Nat.mod_mul
    rw [hn, h8, Nat.pow_succ, hm, Nat.mul_comm (256 ^ n), Nat.add_comm]

/-- Reading a 16-bit parameter back (R165). -/
theorem word16_bigEndian (v : BitVec 16) : ∃ hi lo, bigEndian 2 v.toNat = [hi, lo] ∧ word16 hi lo = v := by
  refine ⟨_, _, rfl, ?_⟩
  unfold word16
  have := ofBigEndian_bigEndian 2 v.toNat v.isLt
  simp only [bigEndian] at this ⊢
  rw [this, BitVec.ofNat_toNat, BitVec.setWidth_eq]

/-- Reading a 32-bit parameter back (R165). -/
theorem word32_bigEndian (v : BitVec 32) :
    ∃ b3 b2 b1 b0, bigEndian 4 v.toNat = [b3, b2, b1, b0] ∧ word32 b3 b2 b1 b0 = v := by
  refine ⟨_, _, _, _, rfl, ?_⟩
  unfold word32
  have := ofBigEndian_bigEndian 4 v.toNat v.isLt
  simp only [bigEndian] at this ⊢
  rw [this, BitVec.ofNat_toNat, BitVec.setWidth_eq]

end Sys2Proof
end

