-- ==== Sys2Proof/Laws/State.lean ====
section
/-! SUPPORT. The small lemmas of the state's named updates: for each update, what it leaves of every other field, and what
it makes of its own. All of them are simp lemmas, so no proof unfolds a record update. -/

namespace Sys2Proof.Machine

/-! ## Records -/

@[simp] theorem chan_setChan_same (s : State) (c : Fin 48) (r : Channel) : (s.setChan c r).chan c = r := by
  simp [State.chan, State.setChan]

theorem chan_setChan_ne (s : State) {c d : Fin 48} (r : Channel) (h : c ≠ d) : (s.setChan c r).chan d = s.chan d := by
  simp [State.chan, State.setChan, Fin.val_ne_of_ne h]

theorem chan_setChan (s : State) (c d : Fin 48) (r : Channel) :
    (s.setChan c r).chan d = if c = d then r else s.chan d := by
  by_cases h : c = d
  · subst h; simp
  · simp [h, chan_setChan_ne]

@[simp] theorem chan_modChan_same (s : State) (c : Fin 48) (f : Channel → Channel) :
    (s.modChan c f).chan c = f (s.chan c) := by simp [State.modChan]

theorem chan_modChan_ne (s : State) {c d : Fin 48} (f : Channel → Channel) (h : c ≠ d) :
    (s.modChan c f).chan d = s.chan d := by simp [State.modChan, chan_setChan_ne, h]

theorem chan_modChan (s : State) (c d : Fin 48) (f : Channel → Channel) :
    (s.modChan c f).chan d = if c = d then f (s.chan d) else s.chan d := by
  by_cases h : c = d
  · subst h; simp
  · simp [h, chan_modChan_ne]

@[simp] theorem setChan_setChan (s : State) (c : Fin 48) (r q : Channel) :
    (s.setChan c r).setChan c q = s.setChan c q := by simp [State.setChan]

@[simp] theorem modChan_modChan (s : State) (c : Fin 48) (f g : Channel → Channel) :
    (s.modChan c f).modChan c g = s.modChan c (fun r => g (f r)) := by simp [State.modChan]

theorem mapTable_getElem {α : Type} {n : Nat} (f : α → α) (v : Vector α n) (i : Nat) (h : i < n) :
    (mapTable f v)[i] = f v[i] := by
  simp [mapTable, Vector.getElem_mk]

@[simp] theorem chan_mapChans (s : State) (f : Channel → Channel) (c : Fin 48) :
    (s.mapChans f).chan c = f (s.chan c) := by
  simp [State.chan, State.mapChans, mapTable_getElem]

/-! ## Links and inbound queues -/

@[simp] theorem link_setLink_same (s : State) (p : Port) (l : PortLink) : (s.setLink p l).link p = l := by
  cases p <;> rfl

theorem link_setLink_ne (s : State) {p q : Port} (l : PortLink) (h : p ≠ q) : (s.setLink p l).link q = s.link q := by
  cases p <;> cases q <;> first | rfl | exact absurd rfl h

theorem link_setLink (s : State) (p q : Port) (l : PortLink) :
    (s.setLink p l).link q = if p = q then l else s.link q := by
  cases p <;> cases q <;> rfl

@[simp] theorem inbound_setInbound_same (s : State) (q : Service) (cells : List Delivered) :
    (s.setInbound q cells).inbound q = cells := by cases q <;> rfl

theorem inbound_setInbound (s : State) (p q : Service) (cells : List Delivered) :
    (s.setInbound p cells).inbound q = if p = q then cells else s.inbound q := by cases p <;> cases q <;> rfl

/-! ## Masters -/

@[simp] theorem masters_setMaster_same (s : State) (m : Fin 4) (v : MasterSlot) : (s.setMaster m v).masters[m] = v := by
  simp [State.setMaster]

theorem masters_setMaster_ne (s : State) {m n : Fin 4} (v : MasterSlot) (h : m ≠ n) :
    (s.setMaster m v).masters[n] = s.masters[n] := by
  simp [State.setMaster, Fin.val_ne_of_ne h]


/-! ## What `State.setChan` leaves -/

@[simp] theorem setChan_masters (s : State) (c : Fin 48) (r : Channel) :
    (s.setChan c r).masters = s.masters := rfl
@[simp] theorem setChan_timebase (s : State) (c : Fin 48) (r : Channel) :
    (s.setChan c r).timebase = s.timebase := rfl
@[simp] theorem setChan_sequencer (s : State) (c : Fin 48) (r : Channel) :
    (s.setChan c r).sequencer = s.sequencer := rfl
@[simp] theorem setChan_lineOut (s : State) (c : Fin 48) (r : Channel) :
    (s.setChan c r).lineOut = s.lineOut := rfl
@[simp] theorem setChan_receive (s : State) (c : Fin 48) (r : Channel) :
    (s.setChan c r).receive = s.receive := rfl
@[simp] theorem setChan_renewalParams (s : State) (c : Fin 48) (r : Channel) :
    (s.setChan c r).renewalParams = s.renewalParams := rfl
@[simp] theorem setChan_qualityParams (s : State) (c : Fin 48) (r : Channel) :
    (s.setChan c r).qualityParams = s.qualityParams := rfl
@[simp] theorem setChan_presencePeriod (s : State) (c : Fin 48) (r : Channel) :
    (s.setChan c r).presencePeriod = s.presencePeriod := rfl
@[simp] theorem setChan_inboundA (s : State) (c : Fin 48) (r : Channel) :
    (s.setChan c r).inboundA = s.inboundA := rfl
@[simp] theorem setChan_inboundB (s : State) (c : Fin 48) (r : Channel) :
    (s.setChan c r).inboundB = s.inboundB := rfl
@[simp] theorem setChan_lastChannel (s : State) (c : Fin 48) (r : Channel) :
    (s.setChan c r).lastChannel = s.lastChannel := rfl
@[simp] theorem setChan_stray (s : State) (c : Fin 48) (r : Channel) :
    (s.setChan c r).stray = s.stray := rfl
@[simp] theorem setChan_periodTimer (s : State) (c : Fin 48) (r : Channel) :
    (s.setChan c r).periodTimer = s.periodTimer := rfl
@[simp] theorem setChan_log (s : State) (c : Fin 48) (r : Channel) :
    (s.setChan c r).log = s.log := rfl
@[simp] theorem setChan_portA (s : State) (c : Fin 48) (r : Channel) :
    (s.setChan c r).portA = s.portA := rfl
@[simp] theorem setChan_portB (s : State) (c : Fin 48) (r : Channel) :
    (s.setChan c r).portB = s.portB := rfl
@[simp] theorem setChan_portK (s : State) (c : Fin 48) (r : Channel) :
    (s.setChan c r).portK = s.portK := rfl
@[simp] theorem setChan_lastPort (s : State) (c : Fin 48) (r : Channel) :
    (s.setChan c r).lastPort = s.lastPort := rfl
@[simp] theorem setChan_startup (s : State) (c : Fin 48) (r : Channel) :
    (s.setChan c r).startup = s.startup := rfl
@[simp] theorem setChan_halted (s : State) (c : Fin 48) (r : Channel) :
    (s.setChan c r).halted = s.halted := rfl
@[simp] theorem setChan_resetLine (s : State) (c : Fin 48) (r : Channel) :
    (s.setChan c r).resetLine = s.resetLine := rfl
@[simp] theorem setChan_responses (s : State) (c : Fin 48) (r : Channel) :
    (s.setChan c r).responses = s.responses := rfl
@[simp] theorem setChan_nonceIndex (s : State) (c : Fin 48) (r : Channel) :
    (s.setChan c r).nonceIndex = s.nonceIndex := rfl
@[simp] theorem setChan_pending (s : State) (c : Fin 48) (r : Channel) :
    (s.setChan c r).pending = s.pending := rfl
@[simp] theorem setChan_link (s : State) (c : Fin 48) (r : Channel) (o : Port) :
    (s.setChan c r).link o = s.link o := by cases o <;> rfl
@[simp] theorem setChan_inbound (s : State) (c : Fin 48) (r : Channel) (o : Service) :
    (s.setChan c r).inbound o = s.inbound o := by cases o <;> rfl

/-! ## What `State.modChan` leaves -/

@[simp] theorem modChan_masters (s : State) (c : Fin 48) (f : Channel → Channel) :
    (s.modChan c f).masters = s.masters := rfl
@[simp] theorem modChan_timebase (s : State) (c : Fin 48) (f : Channel → Channel) :
    (s.modChan c f).timebase = s.timebase := rfl
@[simp] theorem modChan_sequencer (s : State) (c : Fin 48) (f : Channel → Channel) :
    (s.modChan c f).sequencer = s.sequencer := rfl
@[simp] theorem modChan_lineOut (s : State) (c : Fin 48) (f : Channel → Channel) :
    (s.modChan c f).lineOut = s.lineOut := rfl
@[simp] theorem modChan_receive (s : State) (c : Fin 48) (f : Channel → Channel) :
    (s.modChan c f).receive = s.receive := rfl
@[simp] theorem modChan_renewalParams (s : State) (c : Fin 48) (f : Channel → Channel) :
    (s.modChan c f).renewalParams = s.renewalParams := rfl
@[simp] theorem modChan_qualityParams (s : State) (c : Fin 48) (f : Channel → Channel) :
    (s.modChan c f).qualityParams = s.qualityParams := rfl
@[simp] theorem modChan_presencePeriod (s : State) (c : Fin 48) (f : Channel → Channel) :
    (s.modChan c f).presencePeriod = s.presencePeriod := rfl
@[simp] theorem modChan_inboundA (s : State) (c : Fin 48) (f : Channel → Channel) :
    (s.modChan c f).inboundA = s.inboundA := rfl
@[simp] theorem modChan_inboundB (s : State) (c : Fin 48) (f : Channel → Channel) :
    (s.modChan c f).inboundB = s.inboundB := rfl
@[simp] theorem modChan_lastChannel (s : State) (c : Fin 48) (f : Channel → Channel) :
    (s.modChan c f).lastChannel = s.lastChannel := rfl
@[simp] theorem modChan_stray (s : State) (c : Fin 48) (f : Channel → Channel) :
    (s.modChan c f).stray = s.stray := rfl
@[simp] theorem modChan_periodTimer (s : State) (c : Fin 48) (f : Channel → Channel) :
    (s.modChan c f).periodTimer = s.periodTimer := rfl
@[simp] theorem modChan_log (s : State) (c : Fin 48) (f : Channel → Channel) :
    (s.modChan c f).log = s.log := rfl
@[simp] theorem modChan_portA (s : State) (c : Fin 48) (f : Channel → Channel) :
    (s.modChan c f).portA = s.portA := rfl
@[simp] theorem modChan_portB (s : State) (c : Fin 48) (f : Channel → Channel) :
    (s.modChan c f).portB = s.portB := rfl
@[simp] theorem modChan_portK (s : State) (c : Fin 48) (f : Channel → Channel) :
    (s.modChan c f).portK = s.portK := rfl
@[simp] theorem modChan_lastPort (s : State) (c : Fin 48) (f : Channel → Channel) :
    (s.modChan c f).lastPort = s.lastPort := rfl
@[simp] theorem modChan_startup (s : State) (c : Fin 48) (f : Channel → Channel) :
    (s.modChan c f).startup = s.startup := rfl
@[simp] theorem modChan_halted (s : State) (c : Fin 48) (f : Channel → Channel) :
    (s.modChan c f).halted = s.halted := rfl
@[simp] theorem modChan_resetLine (s : State) (c : Fin 48) (f : Channel → Channel) :
    (s.modChan c f).resetLine = s.resetLine := rfl
@[simp] theorem modChan_responses (s : State) (c : Fin 48) (f : Channel → Channel) :
    (s.modChan c f).responses = s.responses := rfl
@[simp] theorem modChan_nonceIndex (s : State) (c : Fin 48) (f : Channel → Channel) :
    (s.modChan c f).nonceIndex = s.nonceIndex := rfl
@[simp] theorem modChan_pending (s : State) (c : Fin 48) (f : Channel → Channel) :
    (s.modChan c f).pending = s.pending := rfl
@[simp] theorem modChan_link (s : State) (c : Fin 48) (f : Channel → Channel) (o : Port) :
    (s.modChan c f).link o = s.link o := by cases o <;> rfl
@[simp] theorem modChan_inbound (s : State) (c : Fin 48) (f : Channel → Channel) (o : Service) :
    (s.modChan c f).inbound o = s.inbound o := by cases o <;> rfl

/-! ## What `State.mapChans` leaves -/

@[simp] theorem mapChans_masters (s : State) (f : Channel → Channel) :
    (s.mapChans f).masters = s.masters := rfl
@[simp] theorem mapChans_timebase (s : State) (f : Channel → Channel) :
    (s.mapChans f).timebase = s.timebase := rfl
@[simp] theorem mapChans_sequencer (s : State) (f : Channel → Channel) :
    (s.mapChans f).sequencer = s.sequencer := rfl
@[simp] theorem mapChans_lineOut (s : State) (f : Channel → Channel) :
    (s.mapChans f).lineOut = s.lineOut := rfl
@[simp] theorem mapChans_receive (s : State) (f : Channel → Channel) :
    (s.mapChans f).receive = s.receive := rfl
@[simp] theorem mapChans_renewalParams (s : State) (f : Channel → Channel) :
    (s.mapChans f).renewalParams = s.renewalParams := rfl
@[simp] theorem mapChans_qualityParams (s : State) (f : Channel → Channel) :
    (s.mapChans f).qualityParams = s.qualityParams := rfl
@[simp] theorem mapChans_presencePeriod (s : State) (f : Channel → Channel) :
    (s.mapChans f).presencePeriod = s.presencePeriod := rfl
@[simp] theorem mapChans_inboundA (s : State) (f : Channel → Channel) :
    (s.mapChans f).inboundA = s.inboundA := rfl
@[simp] theorem mapChans_inboundB (s : State) (f : Channel → Channel) :
    (s.mapChans f).inboundB = s.inboundB := rfl
@[simp] theorem mapChans_lastChannel (s : State) (f : Channel → Channel) :
    (s.mapChans f).lastChannel = s.lastChannel := rfl
@[simp] theorem mapChans_stray (s : State) (f : Channel → Channel) :
    (s.mapChans f).stray = s.stray := rfl
@[simp] theorem mapChans_periodTimer (s : State) (f : Channel → Channel) :
    (s.mapChans f).periodTimer = s.periodTimer := rfl
@[simp] theorem mapChans_log (s : State) (f : Channel → Channel) :
    (s.mapChans f).log = s.log := rfl
@[simp] theorem mapChans_portA (s : State) (f : Channel → Channel) :
    (s.mapChans f).portA = s.portA := rfl
@[simp] theorem mapChans_portB (s : State) (f : Channel → Channel) :
    (s.mapChans f).portB = s.portB := rfl
@[simp] theorem mapChans_portK (s : State) (f : Channel → Channel) :
    (s.mapChans f).portK = s.portK := rfl
@[simp] theorem mapChans_lastPort (s : State) (f : Channel → Channel) :
    (s.mapChans f).lastPort = s.lastPort := rfl
@[simp] theorem mapChans_startup (s : State) (f : Channel → Channel) :
    (s.mapChans f).startup = s.startup := rfl
@[simp] theorem mapChans_halted (s : State) (f : Channel → Channel) :
    (s.mapChans f).halted = s.halted := rfl
@[simp] theorem mapChans_resetLine (s : State) (f : Channel → Channel) :
    (s.mapChans f).resetLine = s.resetLine := rfl
@[simp] theorem mapChans_responses (s : State) (f : Channel → Channel) :
    (s.mapChans f).responses = s.responses := rfl
@[simp] theorem mapChans_nonceIndex (s : State) (f : Channel → Channel) :
    (s.mapChans f).nonceIndex = s.nonceIndex := rfl
@[simp] theorem mapChans_pending (s : State) (f : Channel → Channel) :
    (s.mapChans f).pending = s.pending := rfl
@[simp] theorem mapChans_link (s : State) (f : Channel → Channel) (o : Port) :
    (s.mapChans f).link o = s.link o := by cases o <;> rfl
@[simp] theorem mapChans_inbound (s : State) (f : Channel → Channel) (o : Service) :
    (s.mapChans f).inbound o = s.inbound o := by cases o <;> rfl

/-! ## What `State.setLink` leaves -/

@[simp] theorem setLink_channels (s : State) (p : Port) (l : PortLink) :
    (s.setLink p l).channels = s.channels := by cases p <;> rfl
@[simp] theorem setLink_masters (s : State) (p : Port) (l : PortLink) :
    (s.setLink p l).masters = s.masters := by cases p <;> rfl
@[simp] theorem setLink_timebase (s : State) (p : Port) (l : PortLink) :
    (s.setLink p l).timebase = s.timebase := by cases p <;> rfl
@[simp] theorem setLink_sequencer (s : State) (p : Port) (l : PortLink) :
    (s.setLink p l).sequencer = s.sequencer := by cases p <;> rfl
@[simp] theorem setLink_lineOut (s : State) (p : Port) (l : PortLink) :
    (s.setLink p l).lineOut = s.lineOut := by cases p <;> rfl
@[simp] theorem setLink_receive (s : State) (p : Port) (l : PortLink) :
    (s.setLink p l).receive = s.receive := by cases p <;> rfl
@[simp] theorem setLink_renewalParams (s : State) (p : Port) (l : PortLink) :
    (s.setLink p l).renewalParams = s.renewalParams := by cases p <;> rfl
@[simp] theorem setLink_qualityParams (s : State) (p : Port) (l : PortLink) :
    (s.setLink p l).qualityParams = s.qualityParams := by cases p <;> rfl
@[simp] theorem setLink_presencePeriod (s : State) (p : Port) (l : PortLink) :
    (s.setLink p l).presencePeriod = s.presencePeriod := by cases p <;> rfl
@[simp] theorem setLink_inboundA (s : State) (p : Port) (l : PortLink) :
    (s.setLink p l).inboundA = s.inboundA := by cases p <;> rfl
@[simp] theorem setLink_inboundB (s : State) (p : Port) (l : PortLink) :
    (s.setLink p l).inboundB = s.inboundB := by cases p <;> rfl
@[simp] theorem setLink_lastChannel (s : State) (p : Port) (l : PortLink) :
    (s.setLink p l).lastChannel = s.lastChannel := by cases p <;> rfl
@[simp] theorem setLink_stray (s : State) (p : Port) (l : PortLink) :
    (s.setLink p l).stray = s.stray := by cases p <;> rfl
@[simp] theorem setLink_periodTimer (s : State) (p : Port) (l : PortLink) :
    (s.setLink p l).periodTimer = s.periodTimer := by cases p <;> rfl
@[simp] theorem setLink_log (s : State) (p : Port) (l : PortLink) :
    (s.setLink p l).log = s.log := by cases p <;> rfl
@[simp] theorem setLink_lastPort (s : State) (p : Port) (l : PortLink) :
    (s.setLink p l).lastPort = s.lastPort := by cases p <;> rfl
@[simp] theorem setLink_startup (s : State) (p : Port) (l : PortLink) :
    (s.setLink p l).startup = s.startup := by cases p <;> rfl
@[simp] theorem setLink_halted (s : State) (p : Port) (l : PortLink) :
    (s.setLink p l).halted = s.halted := by cases p <;> rfl
@[simp] theorem setLink_resetLine (s : State) (p : Port) (l : PortLink) :
    (s.setLink p l).resetLine = s.resetLine := by cases p <;> rfl
@[simp] theorem setLink_responses (s : State) (p : Port) (l : PortLink) :
    (s.setLink p l).responses = s.responses := by cases p <;> rfl
@[simp] theorem setLink_nonceIndex (s : State) (p : Port) (l : PortLink) :
    (s.setLink p l).nonceIndex = s.nonceIndex := by cases p <;> rfl
@[simp] theorem setLink_pending (s : State) (p : Port) (l : PortLink) :
    (s.setLink p l).pending = s.pending := by cases p <;> rfl
@[simp] theorem setLink_chan (s : State) (p : Port) (l : PortLink) (d : Fin 48) :
    (s.setLink p l).chan d = s.chan d := by cases p <;> rfl
@[simp] theorem setLink_inbound (s : State) (p : Port) (l : PortLink) (o : Service) :
    (s.setLink p l).inbound o = s.inbound o := by cases o <;> cases p <;> rfl

/-! ## What `State.setInbound` leaves -/

@[simp] theorem setInbound_channels (s : State) (q : Service) (l : List Delivered) :
    (s.setInbound q l).channels = s.channels := by cases q <;> rfl
@[simp] theorem setInbound_masters (s : State) (q : Service) (l : List Delivered) :
    (s.setInbound q l).masters = s.masters := by cases q <;> rfl
@[simp] theorem setInbound_timebase (s : State) (q : Service) (l : List Delivered) :
    (s.setInbound q l).timebase = s.timebase := by cases q <;> rfl
@[simp] theorem setInbound_sequencer (s : State) (q : Service) (l : List Delivered) :
    (s.setInbound q l).sequencer = s.sequencer := by cases q <;> rfl
@[simp] theorem setInbound_lineOut (s : State) (q : Service) (l : List Delivered) :
    (s.setInbound q l).lineOut = s.lineOut := by cases q <;> rfl
@[simp] theorem setInbound_receive (s : State) (q : Service) (l : List Delivered) :
    (s.setInbound q l).receive = s.receive := by cases q <;> rfl
@[simp] theorem setInbound_renewalParams (s : State) (q : Service) (l : List Delivered) :
    (s.setInbound q l).renewalParams = s.renewalParams := by cases q <;> rfl
@[simp] theorem setInbound_qualityParams (s : State) (q : Service) (l : List Delivered) :
    (s.setInbound q l).qualityParams = s.qualityParams := by cases q <;> rfl
@[simp] theorem setInbound_presencePeriod (s : State) (q : Service) (l : List Delivered) :
    (s.setInbound q l).presencePeriod = s.presencePeriod := by cases q <;> rfl
@[simp] theorem setInbound_lastChannel (s : State) (q : Service) (l : List Delivered) :
    (s.setInbound q l).lastChannel = s.lastChannel := by cases q <;> rfl
@[simp] theorem setInbound_stray (s : State) (q : Service) (l : List Delivered) :
    (s.setInbound q l).stray = s.stray := by cases q <;> rfl
@[simp] theorem setInbound_periodTimer (s : State) (q : Service) (l : List Delivered) :
    (s.setInbound q l).periodTimer = s.periodTimer := by cases q <;> rfl
@[simp] theorem setInbound_log (s : State) (q : Service) (l : List Delivered) :
    (s.setInbound q l).log = s.log := by cases q <;> rfl
@[simp] theorem setInbound_portA (s : State) (q : Service) (l : List Delivered) :
    (s.setInbound q l).portA = s.portA := by cases q <;> rfl
@[simp] theorem setInbound_portB (s : State) (q : Service) (l : List Delivered) :
    (s.setInbound q l).portB = s.portB := by cases q <;> rfl
@[simp] theorem setInbound_portK (s : State) (q : Service) (l : List Delivered) :
    (s.setInbound q l).portK = s.portK := by cases q <;> rfl
@[simp] theorem setInbound_lastPort (s : State) (q : Service) (l : List Delivered) :
    (s.setInbound q l).lastPort = s.lastPort := by cases q <;> rfl
@[simp] theorem setInbound_startup (s : State) (q : Service) (l : List Delivered) :
    (s.setInbound q l).startup = s.startup := by cases q <;> rfl
@[simp] theorem setInbound_halted (s : State) (q : Service) (l : List Delivered) :
    (s.setInbound q l).halted = s.halted := by cases q <;> rfl
@[simp] theorem setInbound_resetLine (s : State) (q : Service) (l : List Delivered) :
    (s.setInbound q l).resetLine = s.resetLine := by cases q <;> rfl
@[simp] theorem setInbound_responses (s : State) (q : Service) (l : List Delivered) :
    (s.setInbound q l).responses = s.responses := by cases q <;> rfl
@[simp] theorem setInbound_nonceIndex (s : State) (q : Service) (l : List Delivered) :
    (s.setInbound q l).nonceIndex = s.nonceIndex := by cases q <;> rfl
@[simp] theorem setInbound_pending (s : State) (q : Service) (l : List Delivered) :
    (s.setInbound q l).pending = s.pending := by cases q <;> rfl
@[simp] theorem setInbound_chan (s : State) (q : Service) (l : List Delivered) (d : Fin 48) :
    (s.setInbound q l).chan d = s.chan d := by cases q <;> rfl
@[simp] theorem setInbound_link (s : State) (q : Service) (l : List Delivered) (o : Port) :
    (s.setInbound q l).link o = s.link o := by cases o <;> cases q <;> rfl

/-! ## What `State.setMaster` leaves -/

@[simp] theorem setMaster_channels (s : State) (m : Fin 4) (v : MasterSlot) :
    (s.setMaster m v).channels = s.channels := rfl
@[simp] theorem setMaster_timebase (s : State) (m : Fin 4) (v : MasterSlot) :
    (s.setMaster m v).timebase = s.timebase := rfl
@[simp] theorem setMaster_sequencer (s : State) (m : Fin 4) (v : MasterSlot) :
    (s.setMaster m v).sequencer = s.sequencer := rfl
@[simp] theorem setMaster_lineOut (s : State) (m : Fin 4) (v : MasterSlot) :
    (s.setMaster m v).lineOut = s.lineOut := rfl
@[simp] theorem setMaster_receive (s : State) (m : Fin 4) (v : MasterSlot) :
    (s.setMaster m v).receive = s.receive := rfl
@[simp] theorem setMaster_renewalParams (s : State) (m : Fin 4) (v : MasterSlot) :
    (s.setMaster m v).renewalParams = s.renewalParams := rfl
@[simp] theorem setMaster_qualityParams (s : State) (m : Fin 4) (v : MasterSlot) :
    (s.setMaster m v).qualityParams = s.qualityParams := rfl
@[simp] theorem setMaster_presencePeriod (s : State) (m : Fin 4) (v : MasterSlot) :
    (s.setMaster m v).presencePeriod = s.presencePeriod := rfl
@[simp] theorem setMaster_inboundA (s : State) (m : Fin 4) (v : MasterSlot) :
    (s.setMaster m v).inboundA = s.inboundA := rfl
@[simp] theorem setMaster_inboundB (s : State) (m : Fin 4) (v : MasterSlot) :
    (s.setMaster m v).inboundB = s.inboundB := rfl
@[simp] theorem setMaster_lastChannel (s : State) (m : Fin 4) (v : MasterSlot) :
    (s.setMaster m v).lastChannel = s.lastChannel := rfl
@[simp] theorem setMaster_stray (s : State) (m : Fin 4) (v : MasterSlot) :
    (s.setMaster m v).stray = s.stray := rfl
@[simp] theorem setMaster_periodTimer (s : State) (m : Fin 4) (v : MasterSlot) :
    (s.setMaster m v).periodTimer = s.periodTimer := rfl
@[simp] theorem setMaster_log (s : State) (m : Fin 4) (v : MasterSlot) :
    (s.setMaster m v).log = s.log := rfl
@[simp] theorem setMaster_portA (s : State) (m : Fin 4) (v : MasterSlot) :
    (s.setMaster m v).portA = s.portA := rfl
@[simp] theorem setMaster_portB (s : State) (m : Fin 4) (v : MasterSlot) :
    (s.setMaster m v).portB = s.portB := rfl
@[simp] theorem setMaster_portK (s : State) (m : Fin 4) (v : MasterSlot) :
    (s.setMaster m v).portK = s.portK := rfl
@[simp] theorem setMaster_lastPort (s : State) (m : Fin 4) (v : MasterSlot) :
    (s.setMaster m v).lastPort = s.lastPort := rfl
@[simp] theorem setMaster_startup (s : State) (m : Fin 4) (v : MasterSlot) :
    (s.setMaster m v).startup = s.startup := rfl
@[simp] theorem setMaster_halted (s : State) (m : Fin 4) (v : MasterSlot) :
    (s.setMaster m v).halted = s.halted := rfl
@[simp] theorem setMaster_resetLine (s : State) (m : Fin 4) (v : MasterSlot) :
    (s.setMaster m v).resetLine = s.resetLine := rfl
@[simp] theorem setMaster_responses (s : State) (m : Fin 4) (v : MasterSlot) :
    (s.setMaster m v).responses = s.responses := rfl
@[simp] theorem setMaster_nonceIndex (s : State) (m : Fin 4) (v : MasterSlot) :
    (s.setMaster m v).nonceIndex = s.nonceIndex := rfl
@[simp] theorem setMaster_pending (s : State) (m : Fin 4) (v : MasterSlot) :
    (s.setMaster m v).pending = s.pending := rfl
@[simp] theorem setMaster_chan (s : State) (m : Fin 4) (v : MasterSlot) (d : Fin 48) :
    (s.setMaster m v).chan d = s.chan d := rfl
@[simp] theorem setMaster_link (s : State) (m : Fin 4) (v : MasterSlot) (o : Port) :
    (s.setMaster m v).link o = s.link o := by cases o <;> rfl
@[simp] theorem setMaster_inbound (s : State) (m : Fin 4) (v : MasterSlot) (o : Service) :
    (s.setMaster m v).inbound o = s.inbound o := by cases o <;> rfl

/-! ## What `State.countStray` leaves -/

@[simp] theorem countStray_channels (s : State) :
    (s.countStray).channels = s.channels := rfl
@[simp] theorem countStray_masters (s : State) :
    (s.countStray).masters = s.masters := rfl
@[simp] theorem countStray_timebase (s : State) :
    (s.countStray).timebase = s.timebase := rfl
@[simp] theorem countStray_sequencer (s : State) :
    (s.countStray).sequencer = s.sequencer := rfl
@[simp] theorem countStray_lineOut (s : State) :
    (s.countStray).lineOut = s.lineOut := rfl
@[simp] theorem countStray_receive (s : State) :
    (s.countStray).receive = s.receive := rfl
@[simp] theorem countStray_renewalParams (s : State) :
    (s.countStray).renewalParams = s.renewalParams := rfl
@[simp] theorem countStray_qualityParams (s : State) :
    (s.countStray).qualityParams = s.qualityParams := rfl
@[simp] theorem countStray_presencePeriod (s : State) :
    (s.countStray).presencePeriod = s.presencePeriod := rfl
@[simp] theorem countStray_inboundA (s : State) :
    (s.countStray).inboundA = s.inboundA := rfl
@[simp] theorem countStray_inboundB (s : State) :
    (s.countStray).inboundB = s.inboundB := rfl
@[simp] theorem countStray_lastChannel (s : State) :
    (s.countStray).lastChannel = s.lastChannel := rfl
@[simp] theorem countStray_periodTimer (s : State) :
    (s.countStray).periodTimer = s.periodTimer := rfl
@[simp] theorem countStray_log (s : State) :
    (s.countStray).log = s.log := rfl
@[simp] theorem countStray_portA (s : State) :
    (s.countStray).portA = s.portA := rfl
@[simp] theorem countStray_portB (s : State) :
    (s.countStray).portB = s.portB := rfl
@[simp] theorem countStray_portK (s : State) :
    (s.countStray).portK = s.portK := rfl
@[simp] theorem countStray_lastPort (s : State) :
    (s.countStray).lastPort = s.lastPort := rfl
@[simp] theorem countStray_startup (s : State) :
    (s.countStray).startup = s.startup := rfl
@[simp] theorem countStray_halted (s : State) :
    (s.countStray).halted = s.halted := rfl
@[simp] theorem countStray_resetLine (s : State) :
    (s.countStray).resetLine = s.resetLine := rfl
@[simp] theorem countStray_responses (s : State) :
    (s.countStray).responses = s.responses := rfl
@[simp] theorem countStray_nonceIndex (s : State) :
    (s.countStray).nonceIndex = s.nonceIndex := rfl
@[simp] theorem countStray_pending (s : State) :
    (s.countStray).pending = s.pending := rfl
@[simp] theorem countStray_chan (s : State) (d : Fin 48) :
    (s.countStray).chan d = s.chan d := rfl
@[simp] theorem countStray_link (s : State) (o : Port) :
    (s.countStray).link o = s.link o := by cases o <;> rfl
@[simp] theorem countStray_inbound (s : State) (o : Service) :
    (s.countStray).inbound o = s.inbound o := by cases o <;> rfl

/-! ## What `State.afterDraw` leaves -/

@[simp] theorem afterDraw_channels (s : State) :
    (s.afterDraw).channels = s.channels := rfl
@[simp] theorem afterDraw_masters (s : State) :
    (s.afterDraw).masters = s.masters := rfl
@[simp] theorem afterDraw_timebase (s : State) :
    (s.afterDraw).timebase = s.timebase := rfl
@[simp] theorem afterDraw_sequencer (s : State) :
    (s.afterDraw).sequencer = s.sequencer := rfl
@[simp] theorem afterDraw_lineOut (s : State) :
    (s.afterDraw).lineOut = s.lineOut := rfl
@[simp] theorem afterDraw_receive (s : State) :
    (s.afterDraw).receive = s.receive := rfl
@[simp] theorem afterDraw_renewalParams (s : State) :
    (s.afterDraw).renewalParams = s.renewalParams := rfl
@[simp] theorem afterDraw_qualityParams (s : State) :
    (s.afterDraw).qualityParams = s.qualityParams := rfl
@[simp] theorem afterDraw_presencePeriod (s : State) :
    (s.afterDraw).presencePeriod = s.presencePeriod := rfl
@[simp] theorem afterDraw_inboundA (s : State) :
    (s.afterDraw).inboundA = s.inboundA := rfl
@[simp] theorem afterDraw_inboundB (s : State) :
    (s.afterDraw).inboundB = s.inboundB := rfl
@[simp] theorem afterDraw_lastChannel (s : State) :
    (s.afterDraw).lastChannel = s.lastChannel := rfl
@[simp] theorem afterDraw_stray (s : State) :
    (s.afterDraw).stray = s.stray := rfl
@[simp] theorem afterDraw_periodTimer (s : State) :
    (s.afterDraw).periodTimer = s.periodTimer := rfl
@[simp] theorem afterDraw_log (s : State) :
    (s.afterDraw).log = s.log := rfl
@[simp] theorem afterDraw_portA (s : State) :
    (s.afterDraw).portA = s.portA := rfl
@[simp] theorem afterDraw_portB (s : State) :
    (s.afterDraw).portB = s.portB := rfl
@[simp] theorem afterDraw_portK (s : State) :
    (s.afterDraw).portK = s.portK := rfl
@[simp] theorem afterDraw_lastPort (s : State) :
    (s.afterDraw).lastPort = s.lastPort := rfl
@[simp] theorem afterDraw_startup (s : State) :
    (s.afterDraw).startup = s.startup := rfl
@[simp] theorem afterDraw_halted (s : State) :
    (s.afterDraw).halted = s.halted := rfl
@[simp] theorem afterDraw_resetLine (s : State) :
    (s.afterDraw).resetLine = s.resetLine := rfl
@[simp] theorem afterDraw_responses (s : State) :
    (s.afterDraw).responses = s.responses := rfl
@[simp] theorem afterDraw_pending (s : State) :
    (s.afterDraw).pending = s.pending := rfl
@[simp] theorem afterDraw_chan (s : State) (d : Fin 48) :
    (s.afterDraw).chan d = s.chan d := rfl
@[simp] theorem afterDraw_link (s : State) (o : Port) :
    (s.afterDraw).link o = s.link o := by cases o <;> rfl
@[simp] theorem afterDraw_inbound (s : State) (o : Service) :
    (s.afterDraw).inbound o = s.inbound o := by cases o <;> rfl

/-! ## What `State.respond` leaves -/

@[simp] theorem respond_channels (s : State) (p : Port) (t k : Byte) (a : Completion) (l : List Byte) :
    (s.respond p t k a l).channels = s.channels := rfl
@[simp] theorem respond_masters (s : State) (p : Port) (t k : Byte) (a : Completion) (l : List Byte) :
    (s.respond p t k a l).masters = s.masters := rfl
@[simp] theorem respond_timebase (s : State) (p : Port) (t k : Byte) (a : Completion) (l : List Byte) :
    (s.respond p t k a l).timebase = s.timebase := rfl
@[simp] theorem respond_sequencer (s : State) (p : Port) (t k : Byte) (a : Completion) (l : List Byte) :
    (s.respond p t k a l).sequencer = s.sequencer := rfl
@[simp] theorem respond_lineOut (s : State) (p : Port) (t k : Byte) (a : Completion) (l : List Byte) :
    (s.respond p t k a l).lineOut = s.lineOut := rfl
@[simp] theorem respond_receive (s : State) (p : Port) (t k : Byte) (a : Completion) (l : List Byte) :
    (s.respond p t k a l).receive = s.receive := rfl
@[simp] theorem respond_renewalParams (s : State) (p : Port) (t k : Byte) (a : Completion) (l : List Byte) :
    (s.respond p t k a l).renewalParams = s.renewalParams := rfl
@[simp] theorem respond_qualityParams (s : State) (p : Port) (t k : Byte) (a : Completion) (l : List Byte) :
    (s.respond p t k a l).qualityParams = s.qualityParams := rfl
@[simp] theorem respond_presencePeriod (s : State) (p : Port) (t k : Byte) (a : Completion) (l : List Byte) :
    (s.respond p t k a l).presencePeriod = s.presencePeriod := rfl
@[simp] theorem respond_inboundA (s : State) (p : Port) (t k : Byte) (a : Completion) (l : List Byte) :
    (s.respond p t k a l).inboundA = s.inboundA := rfl
@[simp] theorem respond_inboundB (s : State) (p : Port) (t k : Byte) (a : Completion) (l : List Byte) :
    (s.respond p t k a l).inboundB = s.inboundB := rfl
@[simp] theorem respond_lastChannel (s : State) (p : Port) (t k : Byte) (a : Completion) (l : List Byte) :
    (s.respond p t k a l).lastChannel = s.lastChannel := rfl
@[simp] theorem respond_stray (s : State) (p : Port) (t k : Byte) (a : Completion) (l : List Byte) :
    (s.respond p t k a l).stray = s.stray := rfl
@[simp] theorem respond_periodTimer (s : State) (p : Port) (t k : Byte) (a : Completion) (l : List Byte) :
    (s.respond p t k a l).periodTimer = s.periodTimer := rfl
@[simp] theorem respond_log (s : State) (p : Port) (t k : Byte) (a : Completion) (l : List Byte) :
    (s.respond p t k a l).log = s.log := rfl
@[simp] theorem respond_portA (s : State) (p : Port) (t k : Byte) (a : Completion) (l : List Byte) :
    (s.respond p t k a l).portA = s.portA := rfl
@[simp] theorem respond_portB (s : State) (p : Port) (t k : Byte) (a : Completion) (l : List Byte) :
    (s.respond p t k a l).portB = s.portB := rfl
@[simp] theorem respond_portK (s : State) (p : Port) (t k : Byte) (a : Completion) (l : List Byte) :
    (s.respond p t k a l).portK = s.portK := rfl
@[simp] theorem respond_lastPort (s : State) (p : Port) (t k : Byte) (a : Completion) (l : List Byte) :
    (s.respond p t k a l).lastPort = s.lastPort := rfl
@[simp] theorem respond_startup (s : State) (p : Port) (t k : Byte) (a : Completion) (l : List Byte) :
    (s.respond p t k a l).startup = s.startup := rfl
@[simp] theorem respond_halted (s : State) (p : Port) (t k : Byte) (a : Completion) (l : List Byte) :
    (s.respond p t k a l).halted = s.halted := rfl
@[simp] theorem respond_resetLine (s : State) (p : Port) (t k : Byte) (a : Completion) (l : List Byte) :
    (s.respond p t k a l).resetLine = s.resetLine := rfl
@[simp] theorem respond_nonceIndex (s : State) (p : Port) (t k : Byte) (a : Completion) (l : List Byte) :
    (s.respond p t k a l).nonceIndex = s.nonceIndex := rfl
@[simp] theorem respond_pending (s : State) (p : Port) (t k : Byte) (a : Completion) (l : List Byte) :
    (s.respond p t k a l).pending = s.pending := rfl
@[simp] theorem respond_responses (s : State) (p : Port) (t k : Byte) (a : Completion) (l : List Byte) :
    (s.respond p t k a l).responses = s.responses ++ [⟨p, responseFrame t k a l⟩] := rfl
@[simp] theorem respond_chan (s : State) (p : Port) (t k : Byte) (a : Completion) (l : List Byte) (d : Fin 48) :
    (s.respond p t k a l).chan d = s.chan d := rfl
@[simp] theorem respond_link (s : State) (p : Port) (t k : Byte) (a : Completion) (l : List Byte) (o : Port) :
    (s.respond p t k a l).link o = s.link o := by cases o <;> rfl
@[simp] theorem respond_inbound (s : State) (p : Port) (t k : Byte) (a : Completion) (l : List Byte) (o : Service) :
    (s.respond p t k a l).inbound o = s.inbound o := by cases o <;> rfl

/-! ## What `State.raise` leaves -/

@[simp] theorem raise_channels (s : State) (k : FaultKind) (c : Option (Fin 48)) (p : Option Port) (n : Nat) :
    (s.raise k c p n).channels = s.channels := rfl
@[simp] theorem raise_masters (s : State) (k : FaultKind) (c : Option (Fin 48)) (p : Option Port) (n : Nat) :
    (s.raise k c p n).masters = s.masters := rfl
@[simp] theorem raise_timebase (s : State) (k : FaultKind) (c : Option (Fin 48)) (p : Option Port) (n : Nat) :
    (s.raise k c p n).timebase = s.timebase := rfl
@[simp] theorem raise_sequencer (s : State) (k : FaultKind) (c : Option (Fin 48)) (p : Option Port) (n : Nat) :
    (s.raise k c p n).sequencer = s.sequencer := rfl
@[simp] theorem raise_lineOut (s : State) (k : FaultKind) (c : Option (Fin 48)) (p : Option Port) (n : Nat) :
    (s.raise k c p n).lineOut = s.lineOut := rfl
@[simp] theorem raise_receive (s : State) (k : FaultKind) (c : Option (Fin 48)) (p : Option Port) (n : Nat) :
    (s.raise k c p n).receive = s.receive := rfl
@[simp] theorem raise_renewalParams (s : State) (k : FaultKind) (c : Option (Fin 48)) (p : Option Port) (n : Nat) :
    (s.raise k c p n).renewalParams = s.renewalParams := rfl
@[simp] theorem raise_qualityParams (s : State) (k : FaultKind) (c : Option (Fin 48)) (p : Option Port) (n : Nat) :
    (s.raise k c p n).qualityParams = s.qualityParams := rfl
@[simp] theorem raise_presencePeriod (s : State) (k : FaultKind) (c : Option (Fin 48)) (p : Option Port) (n : Nat) :
    (s.raise k c p n).presencePeriod = s.presencePeriod := rfl
@[simp] theorem raise_inboundA (s : State) (k : FaultKind) (c : Option (Fin 48)) (p : Option Port) (n : Nat) :
    (s.raise k c p n).inboundA = s.inboundA := rfl
@[simp] theorem raise_inboundB (s : State) (k : FaultKind) (c : Option (Fin 48)) (p : Option Port) (n : Nat) :
    (s.raise k c p n).inboundB = s.inboundB := rfl
@[simp] theorem raise_lastChannel (s : State) (k : FaultKind) (c : Option (Fin 48)) (p : Option Port) (n : Nat) :
    (s.raise k c p n).lastChannel = s.lastChannel := rfl
@[simp] theorem raise_stray (s : State) (k : FaultKind) (c : Option (Fin 48)) (p : Option Port) (n : Nat) :
    (s.raise k c p n).stray = s.stray := rfl
@[simp] theorem raise_periodTimer (s : State) (k : FaultKind) (c : Option (Fin 48)) (p : Option Port) (n : Nat) :
    (s.raise k c p n).periodTimer = s.periodTimer := rfl
@[simp] theorem raise_portA (s : State) (k : FaultKind) (c : Option (Fin 48)) (p : Option Port) (n : Nat) :
    (s.raise k c p n).portA = s.portA := rfl
@[simp] theorem raise_portB (s : State) (k : FaultKind) (c : Option (Fin 48)) (p : Option Port) (n : Nat) :
    (s.raise k c p n).portB = s.portB := rfl
@[simp] theorem raise_portK (s : State) (k : FaultKind) (c : Option (Fin 48)) (p : Option Port) (n : Nat) :
    (s.raise k c p n).portK = s.portK := rfl
@[simp] theorem raise_lastPort (s : State) (k : FaultKind) (c : Option (Fin 48)) (p : Option Port) (n : Nat) :
    (s.raise k c p n).lastPort = s.lastPort := rfl
@[simp] theorem raise_startup (s : State) (k : FaultKind) (c : Option (Fin 48)) (p : Option Port) (n : Nat) :
    (s.raise k c p n).startup = s.startup := rfl
@[simp] theorem raise_halted (s : State) (k : FaultKind) (c : Option (Fin 48)) (p : Option Port) (n : Nat) :
    (s.raise k c p n).halted = s.halted := rfl
@[simp] theorem raise_resetLine (s : State) (k : FaultKind) (c : Option (Fin 48)) (p : Option Port) (n : Nat) :
    (s.raise k c p n).resetLine = s.resetLine := rfl
@[simp] theorem raise_responses (s : State) (k : FaultKind) (c : Option (Fin 48)) (p : Option Port) (n : Nat) :
    (s.raise k c p n).responses = s.responses := rfl
@[simp] theorem raise_nonceIndex (s : State) (k : FaultKind) (c : Option (Fin 48)) (p : Option Port) (n : Nat) :
    (s.raise k c p n).nonceIndex = s.nonceIndex := rfl
@[simp] theorem raise_pending (s : State) (k : FaultKind) (c : Option (Fin 48)) (p : Option Port) (n : Nat) :
    (s.raise k c p n).pending = s.pending := rfl
@[simp] theorem raise_chan (s : State) (k : FaultKind) (c : Option (Fin 48)) (p : Option Port) (n : Nat) (d : Fin 48) :
    (s.raise k c p n).chan d = s.chan d := rfl
@[simp] theorem raise_link (s : State) (k : FaultKind) (c : Option (Fin 48)) (p : Option Port) (n : Nat) (o : Port) :
    (s.raise k c p n).link o = s.link o := by cases o <;> rfl
@[simp] theorem raise_inbound (s : State) (k : FaultKind) (c : Option (Fin 48)) (p : Option Port) (n : Nat) (o : Service) :
    (s.raise k c p n).inbound o = s.inbound o := by cases o <;> rfl

/-! ## What `State.raiseFor` leaves -/

@[simp] theorem raiseFor_channels (s : State) (k : FaultKind) (c : Fin 48) (n : Nat) :
    (s.raiseFor k c n).channels = s.channels := rfl
@[simp] theorem raiseFor_masters (s : State) (k : FaultKind) (c : Fin 48) (n : Nat) :
    (s.raiseFor k c n).masters = s.masters := rfl
@[simp] theorem raiseFor_timebase (s : State) (k : FaultKind) (c : Fin 48) (n : Nat) :
    (s.raiseFor k c n).timebase = s.timebase := rfl
@[simp] theorem raiseFor_sequencer (s : State) (k : FaultKind) (c : Fin 48) (n : Nat) :
    (s.raiseFor k c n).sequencer = s.sequencer := rfl
@[simp] theorem raiseFor_lineOut (s : State) (k : FaultKind) (c : Fin 48) (n : Nat) :
    (s.raiseFor k c n).lineOut = s.lineOut := rfl
@[simp] theorem raiseFor_receive (s : State) (k : FaultKind) (c : Fin 48) (n : Nat) :
    (s.raiseFor k c n).receive = s.receive := rfl
@[simp] theorem raiseFor_renewalParams (s : State) (k : FaultKind) (c : Fin 48) (n : Nat) :
    (s.raiseFor k c n).renewalParams = s.renewalParams := rfl
@[simp] theorem raiseFor_qualityParams (s : State) (k : FaultKind) (c : Fin 48) (n : Nat) :
    (s.raiseFor k c n).qualityParams = s.qualityParams := rfl
@[simp] theorem raiseFor_presencePeriod (s : State) (k : FaultKind) (c : Fin 48) (n : Nat) :
    (s.raiseFor k c n).presencePeriod = s.presencePeriod := rfl
@[simp] theorem raiseFor_inboundA (s : State) (k : FaultKind) (c : Fin 48) (n : Nat) :
    (s.raiseFor k c n).inboundA = s.inboundA := rfl
@[simp] theorem raiseFor_inboundB (s : State) (k : FaultKind) (c : Fin 48) (n : Nat) :
    (s.raiseFor k c n).inboundB = s.inboundB := rfl
@[simp] theorem raiseFor_lastChannel (s : State) (k : FaultKind) (c : Fin 48) (n : Nat) :
    (s.raiseFor k c n).lastChannel = s.lastChannel := rfl
@[simp] theorem raiseFor_stray (s : State) (k : FaultKind) (c : Fin 48) (n : Nat) :
    (s.raiseFor k c n).stray = s.stray := rfl
@[simp] theorem raiseFor_periodTimer (s : State) (k : FaultKind) (c : Fin 48) (n : Nat) :
    (s.raiseFor k c n).periodTimer = s.periodTimer := rfl
@[simp] theorem raiseFor_portA (s : State) (k : FaultKind) (c : Fin 48) (n : Nat) :
    (s.raiseFor k c n).portA = s.portA := rfl
@[simp] theorem raiseFor_portB (s : State) (k : FaultKind) (c : Fin 48) (n : Nat) :
    (s.raiseFor k c n).portB = s.portB := rfl
@[simp] theorem raiseFor_portK (s : State) (k : FaultKind) (c : Fin 48) (n : Nat) :
    (s.raiseFor k c n).portK = s.portK := rfl
@[simp] theorem raiseFor_lastPort (s : State) (k : FaultKind) (c : Fin 48) (n : Nat) :
    (s.raiseFor k c n).lastPort = s.lastPort := rfl
@[simp] theorem raiseFor_startup (s : State) (k : FaultKind) (c : Fin 48) (n : Nat) :
    (s.raiseFor k c n).startup = s.startup := rfl
@[simp] theorem raiseFor_halted (s : State) (k : FaultKind) (c : Fin 48) (n : Nat) :
    (s.raiseFor k c n).halted = s.halted := rfl
@[simp] theorem raiseFor_resetLine (s : State) (k : FaultKind) (c : Fin 48) (n : Nat) :
    (s.raiseFor k c n).resetLine = s.resetLine := rfl
@[simp] theorem raiseFor_responses (s : State) (k : FaultKind) (c : Fin 48) (n : Nat) :
    (s.raiseFor k c n).responses = s.responses := rfl
@[simp] theorem raiseFor_nonceIndex (s : State) (k : FaultKind) (c : Fin 48) (n : Nat) :
    (s.raiseFor k c n).nonceIndex = s.nonceIndex := rfl
@[simp] theorem raiseFor_pending (s : State) (k : FaultKind) (c : Fin 48) (n : Nat) :
    (s.raiseFor k c n).pending = s.pending := rfl
@[simp] theorem raiseFor_chan (s : State) (k : FaultKind) (c : Fin 48) (n : Nat) (d : Fin 48) :
    (s.raiseFor k c n).chan d = s.chan d := rfl
@[simp] theorem raiseFor_link (s : State) (k : FaultKind) (c : Fin 48) (n : Nat) (o : Port) :
    (s.raiseFor k c n).link o = s.link o := by cases o <;> rfl
@[simp] theorem raiseFor_inbound (s : State) (k : FaultKind) (c : Fin 48) (n : Nat) (o : Service) :
    (s.raiseFor k c n).inbound o = s.inbound o := by cases o <;> rfl

/-! ## What `State.inEvent` leaves -/

@[simp] theorem inEvent_self (s : State) : s.inEvent s.log.event = s := rfl
@[simp] theorem inEvent_channels (s : State) (n : Nat) :
    (s.inEvent n).channels = s.channels := rfl
@[simp] theorem inEvent_masters (s : State) (n : Nat) :
    (s.inEvent n).masters = s.masters := rfl
@[simp] theorem inEvent_timebase (s : State) (n : Nat) :
    (s.inEvent n).timebase = s.timebase := rfl
@[simp] theorem inEvent_sequencer (s : State) (n : Nat) :
    (s.inEvent n).sequencer = s.sequencer := rfl
@[simp] theorem inEvent_lineOut (s : State) (n : Nat) :
    (s.inEvent n).lineOut = s.lineOut := rfl
@[simp] theorem inEvent_receive (s : State) (n : Nat) :
    (s.inEvent n).receive = s.receive := rfl
@[simp] theorem inEvent_renewalParams (s : State) (n : Nat) :
    (s.inEvent n).renewalParams = s.renewalParams := rfl
@[simp] theorem inEvent_qualityParams (s : State) (n : Nat) :
    (s.inEvent n).qualityParams = s.qualityParams := rfl
@[simp] theorem inEvent_presencePeriod (s : State) (n : Nat) :
    (s.inEvent n).presencePeriod = s.presencePeriod := rfl
@[simp] theorem inEvent_inboundA (s : State) (n : Nat) :
    (s.inEvent n).inboundA = s.inboundA := rfl
@[simp] theorem inEvent_inboundB (s : State) (n : Nat) :
    (s.inEvent n).inboundB = s.inboundB := rfl
@[simp] theorem inEvent_lastChannel (s : State) (n : Nat) :
    (s.inEvent n).lastChannel = s.lastChannel := rfl
@[simp] theorem inEvent_stray (s : State) (n : Nat) :
    (s.inEvent n).stray = s.stray := rfl
@[simp] theorem inEvent_periodTimer (s : State) (n : Nat) :
    (s.inEvent n).periodTimer = s.periodTimer := rfl
@[simp] theorem inEvent_log (s : State) (n : Nat) :
    (s.inEvent n).log = { s.log with event := n } := rfl
@[simp] theorem inEvent_portA (s : State) (n : Nat) :
    (s.inEvent n).portA = s.portA := rfl
@[simp] theorem inEvent_portB (s : State) (n : Nat) :
    (s.inEvent n).portB = s.portB := rfl
@[simp] theorem inEvent_portK (s : State) (n : Nat) :
    (s.inEvent n).portK = s.portK := rfl
@[simp] theorem inEvent_lastPort (s : State) (n : Nat) :
    (s.inEvent n).lastPort = s.lastPort := rfl
@[simp] theorem inEvent_startup (s : State) (n : Nat) :
    (s.inEvent n).startup = s.startup := rfl
@[simp] theorem inEvent_halted (s : State) (n : Nat) :
    (s.inEvent n).halted = s.halted := rfl
@[simp] theorem inEvent_resetLine (s : State) (n : Nat) :
    (s.inEvent n).resetLine = s.resetLine := rfl
@[simp] theorem inEvent_responses (s : State) (n : Nat) :
    (s.inEvent n).responses = s.responses := rfl
@[simp] theorem inEvent_nonceIndex (s : State) (n : Nat) :
    (s.inEvent n).nonceIndex = s.nonceIndex := rfl
@[simp] theorem inEvent_pending (s : State) (n : Nat) :
    (s.inEvent n).pending = s.pending := rfl
@[simp] theorem inEvent_chan (s : State) (n : Nat) (d : Fin 48) :
    (s.inEvent n).chan d = s.chan d := rfl
@[simp] theorem inEvent_link (s : State) (n : Nat) (o : Port) :
    (s.inEvent n).link o = s.link o := by cases o <;> rfl
@[simp] theorem inEvent_inbound (s : State) (n : Nat) (o : Service) :
    (s.inEvent n).inbound o = s.inbound o := by cases o <;> rfl

/-! ## What `State.keep` leaves -/

@[simp] theorem keep_channels (s : State) (k : Option SlotKind) :
    (s.keep k).channels = s.channels := rfl
@[simp] theorem keep_masters (s : State) (k : Option SlotKind) :
    (s.keep k).masters = s.masters := rfl
@[simp] theorem keep_timebase (s : State) (k : Option SlotKind) :
    (s.keep k).timebase = s.timebase := rfl
@[simp] theorem keep_lineOut (s : State) (k : Option SlotKind) :
    (s.keep k).lineOut = s.lineOut := rfl
@[simp] theorem keep_receive (s : State) (k : Option SlotKind) :
    (s.keep k).receive = s.receive := rfl
@[simp] theorem keep_renewalParams (s : State) (k : Option SlotKind) :
    (s.keep k).renewalParams = s.renewalParams := rfl
@[simp] theorem keep_qualityParams (s : State) (k : Option SlotKind) :
    (s.keep k).qualityParams = s.qualityParams := rfl
@[simp] theorem keep_presencePeriod (s : State) (k : Option SlotKind) :
    (s.keep k).presencePeriod = s.presencePeriod := rfl
@[simp] theorem keep_inboundA (s : State) (k : Option SlotKind) :
    (s.keep k).inboundA = s.inboundA := rfl
@[simp] theorem keep_inboundB (s : State) (k : Option SlotKind) :
    (s.keep k).inboundB = s.inboundB := rfl
@[simp] theorem keep_lastChannel (s : State) (k : Option SlotKind) :
    (s.keep k).lastChannel = s.lastChannel := rfl
@[simp] theorem keep_stray (s : State) (k : Option SlotKind) :
    (s.keep k).stray = s.stray := rfl
@[simp] theorem keep_periodTimer (s : State) (k : Option SlotKind) :
    (s.keep k).periodTimer = s.periodTimer := rfl
@[simp] theorem keep_log (s : State) (k : Option SlotKind) :
    (s.keep k).log = s.log := rfl
@[simp] theorem keep_portA (s : State) (k : Option SlotKind) :
    (s.keep k).portA = s.portA := rfl
@[simp] theorem keep_portB (s : State) (k : Option SlotKind) :
    (s.keep k).portB = s.portB := rfl
@[simp] theorem keep_portK (s : State) (k : Option SlotKind) :
    (s.keep k).portK = s.portK := rfl
@[simp] theorem keep_lastPort (s : State) (k : Option SlotKind) :
    (s.keep k).lastPort = s.lastPort := rfl
@[simp] theorem keep_startup (s : State) (k : Option SlotKind) :
    (s.keep k).startup = s.startup := rfl
@[simp] theorem keep_halted (s : State) (k : Option SlotKind) :
    (s.keep k).halted = s.halted := rfl
@[simp] theorem keep_resetLine (s : State) (k : Option SlotKind) :
    (s.keep k).resetLine = s.resetLine := rfl
@[simp] theorem keep_responses (s : State) (k : Option SlotKind) :
    (s.keep k).responses = s.responses := rfl
@[simp] theorem keep_nonceIndex (s : State) (k : Option SlotKind) :
    (s.keep k).nonceIndex = s.nonceIndex := rfl
@[simp] theorem keep_pending (s : State) (k : Option SlotKind) :
    (s.keep k).pending = s.pending := rfl
@[simp] theorem keep_chan (s : State) (k : Option SlotKind) (d : Fin 48) :
    (s.keep k).chan d = s.chan d := rfl
@[simp] theorem keep_link (s : State) (k : Option SlotKind) (o : Port) :
    (s.keep k).link o = s.link o := by cases o <;> rfl
@[simp] theorem keep_inbound (s : State) (k : Option SlotKind) (o : Service) :
    (s.keep k).inbound o = s.inbound o := by cases o <;> rfl

/-! ## What `State.taken` leaves -/

@[simp] theorem taken_channels (s : State) (p : Port) :
    (s.taken p).channels = s.channels := by cases p <;> rfl
@[simp] theorem taken_masters (s : State) (p : Port) :
    (s.taken p).masters = s.masters := by cases p <;> rfl
@[simp] theorem taken_timebase (s : State) (p : Port) :
    (s.taken p).timebase = s.timebase := by cases p <;> rfl
@[simp] theorem taken_sequencer (s : State) (p : Port) :
    (s.taken p).sequencer = s.sequencer := by cases p <;> rfl
@[simp] theorem taken_lineOut (s : State) (p : Port) :
    (s.taken p).lineOut = s.lineOut := by cases p <;> rfl
@[simp] theorem taken_receive (s : State) (p : Port) :
    (s.taken p).receive = s.receive := by cases p <;> rfl
@[simp] theorem taken_renewalParams (s : State) (p : Port) :
    (s.taken p).renewalParams = s.renewalParams := by cases p <;> rfl
@[simp] theorem taken_qualityParams (s : State) (p : Port) :
    (s.taken p).qualityParams = s.qualityParams := by cases p <;> rfl
@[simp] theorem taken_presencePeriod (s : State) (p : Port) :
    (s.taken p).presencePeriod = s.presencePeriod := by cases p <;> rfl
@[simp] theorem taken_inboundA (s : State) (p : Port) :
    (s.taken p).inboundA = s.inboundA := by cases p <;> rfl
@[simp] theorem taken_inboundB (s : State) (p : Port) :
    (s.taken p).inboundB = s.inboundB := by cases p <;> rfl
@[simp] theorem taken_lastChannel (s : State) (p : Port) :
    (s.taken p).lastChannel = s.lastChannel := by cases p <;> rfl
@[simp] theorem taken_stray (s : State) (p : Port) :
    (s.taken p).stray = s.stray := by cases p <;> rfl
@[simp] theorem taken_periodTimer (s : State) (p : Port) :
    (s.taken p).periodTimer = s.periodTimer := by cases p <;> rfl
@[simp] theorem taken_log (s : State) (p : Port) :
    (s.taken p).log = s.log := by cases p <;> rfl
@[simp] theorem taken_startup (s : State) (p : Port) :
    (s.taken p).startup = s.startup := by cases p <;> rfl
@[simp] theorem taken_halted (s : State) (p : Port) :
    (s.taken p).halted = s.halted := by cases p <;> rfl
@[simp] theorem taken_resetLine (s : State) (p : Port) :
    (s.taken p).resetLine = s.resetLine := by cases p <;> rfl
@[simp] theorem taken_responses (s : State) (p : Port) :
    (s.taken p).responses = s.responses := by cases p <;> rfl
@[simp] theorem taken_nonceIndex (s : State) (p : Port) :
    (s.taken p).nonceIndex = s.nonceIndex := by cases p <;> rfl
@[simp] theorem taken_pending (s : State) (p : Port) :
    (s.taken p).pending = s.pending := by cases p <;> rfl
@[simp] theorem taken_chan (s : State) (p : Port) (d : Fin 48) :
    (s.taken p).chan d = s.chan d := by cases p <;> rfl
@[simp] theorem taken_inbound (s : State) (p : Port) (o : Service) :
    (s.taken p).inbound o = s.inbound o := by cases o <;> cases p <;> rfl

@[simp] theorem taken_lastPort (s : State) (p : Port) : (s.taken p).lastPort = p := rfl

@[simp] theorem keep_kept (s : State) (k : Option SlotKind) : (s.keep k).sequencer.kept = k := rfl

@[simp] theorem keep_loadDue (s : State) (k : Option SlotKind) : (s.keep k).sequencer.loadDue = false := rfl

@[simp] theorem keep_slot (s : State) (k : Option SlotKind) : (s.keep k).sequencer.slot = s.sequencer.slot := rfl

@[simp] theorem keep_map (s : State) (k : Option SlotKind) : (s.keep k).sequencer.map = s.sequencer.map := rfl

@[simp] theorem keep_frame (s : State) (k : Option SlotKind) : (s.keep k).sequencer.frame = s.sequencer.frame := rfl

@[simp] theorem keep_pendingFrame (s : State) (k : Option SlotKind) :
    (s.keep k).sequencer.pendingFrame = s.sequencer.pendingFrame := rfl

/-! ## Values after reset -/

@[simp] theorem reset_chan (c : Fin 48) : State.reset.chan c = Channel.closedValues := by
  simp [State.chan, State.reset]

@[simp] theorem reset_link (p : Port) : State.reset.link p = PortLink.fresh := by cases p <;> rfl

@[simp] theorem reset_inbound (q : Service) : State.reset.inbound q = [] := by cases q <;> rfl

end Sys2Proof.Machine
end

