-- ==== Sys2Proof/Laws/Commands.lean ====
section
/-! SUPPORT. What the command unit can do with a frame (R169 to R171) and with a channel command (R9), said once. -/

namespace Sys2Proof.Machine

/-! ## Taking and judging -/

/-- A taking that can come makes the response of the judged command. -/
theorem taking_of {s : State} {p : Port} {tag code : Byte} {params : List Byte} (body : State → Answer)
    (h : s.canTake p (commandFrame code tag params) = true) :
    s.taking p tag code params body =
      ((s.taken p).judge p code body).state.respond p tag code ((s.taken p).judge p code body).completion
        ((s.taken p).judge p code body).results := by
  simp [State.taking, h]

/-- A taking that cannot come now changes nothing. -/
theorem taking_of_not {s : State} {p : Port} {tag code : Byte} {params : List Byte} (body : State → Answer)
    (h : s.canTake p (commandFrame code tag params) = false) : s.taking p tag code params body = s := by
  simp [State.taking, h]

theorem judge_privilege {s : State} {p : Port} {code : Byte} (body : State → Answer) (h : admittedOn p code = false) :
    s.judge p code body = refuse .privilege s := by simp [State.judge, h]

theorem judge_startup {s : State} {p : Port} {code : Byte} (body : State → Answer) (h : admittedOn p code = true)
    (hs : s.startup = true) (hc : inStartup code = false) : s.judge p code body = refuse .startup s := by
  simp [State.judge, h, hs, hc]

theorem judge_body {s : State} {p : Port} {code : Byte} (body : State → Answer) (h : admittedOn p code = true)
    (hs : s.startup = false ∨ inStartup code = true) : s.judge p code body = body s := by
  rcases hs with hs | hs <;> simp [State.judge, h, hs]

/-- A judged frame is refused with the state as it was, or its command's own checks and effect decide. -/
theorem judge_cases (s : State) (p : Port) (code : Byte) (body : State → Answer) :
    s.judge p code body = refuse .privilege s ∨ s.judge p code body = refuse .startup s ∨
      s.judge p code body = body s := by
  unfold State.judge
  split
  · exact .inl rfl
  · split
    · exact .inr (.inl rfl)
    · exact .inr (.inr rfl)

/-- Anything that holds of the state, survives the taking and the response, and is kept by the command's body, is kept by
the taking. -/
theorem taking_keeps {P : State → Prop} {s : State} (p : Port) (tag code : Byte) (params : List Byte)
    (body : State → Answer) (hs : P s) (htaken : P s → P (s.taken p)) (hbody : ∀ t, P t → P (body t).state)
    (hrespond : ∀ t a l, P t → P (State.respond t p tag code a l)) : P (s.taking p tag code params body) := by
  unfold State.taking
  split
  · apply hrespond
    rcases judge_cases (s.taken p) p code body with h | h | h <;> rw [h]
    · exact htaken hs
    · exact htaken hs
    · exact hbody _ (htaken hs)
  · exact hs

@[simp] theorem fromService_a (body : Service → State → Answer) (s : State) : fromService .a body s = body .a s := rfl

@[simp] theorem fromService_b (body : Service → State → Answer) (s : State) : fromService .b body s = body .b s := rfl

@[simp] theorem fromService_k (body : Service → State → Answer) (s : State) :
    fromService .k body s = refuse .privilege s := rfl

@[simp] theorem fromService_port (q : Service) (body : Service → State → Answer) (s : State) :
    fromService q.port body s = body q s := by cases q <;> rfl

@[simp] theorem serviceOf_port (q : Service) : serviceOf q.port = some q := by cases q <;> rfl

@[simp] theorem refuse_state (k : Completion) (s : State) : (refuse k s).state = s := rfl

/-- A command of the service ports keeps what its body keeps. -/
theorem fromService_keeps {P : State → Prop} (p : Port) (body : Service → State → Answer) (s : State) (hs : P s)
    (hbody : ∀ q, P (body q s).state) : P (fromService p body s).state := by
  cases p
  · exact hbody .a
  · exact hbody .b
  · exact hs

/-! ## Channel commands (R9) -/

/-- A channel command is refused with the state as it was, or it has its effect after adoption by the calling port. -/
theorem channelCommand_cases (p : Port) (channel : Byte) (own : Channel → Option Completion)
    (effect : Fin 48 → State → Answer) (s : State) :
    (∃ code, channelCommand p channel own effect s = refuse code s) ∨
      ∃ q c, serviceOf p = some q ∧ channelOf channel = some c ∧ (s.chan c).state ≠ .closed ∧
        ((s.chan c).serving = some q ∨ s.ownerPresent (s.chan c) = false) ∧ own (s.chan c) = none ∧
        channelCommand p channel own effect s = effect c (s.adoptFor c q) := by
  unfold channelCommand
  split
  · exact .inl ⟨_, rfl⟩
  · exact .inl ⟨_, rfl⟩
  · rename_i q c hq hc
    split
    · exact .inl ⟨_, rfl⟩
    · rename_i hclosed
      split
      · exact .inl ⟨_, rfl⟩
      · rename_i hserving
        split
        · exact .inl ⟨_, rfl⟩
        · rename_i hown
          refine .inr ⟨q, c, hq, hc, hclosed, ?_, hown, rfl⟩
          by_cases h : (s.chan c).serving = some q
          · exact .inl h
          · exact .inr (by simpa [h] using hserving)

/-- The port that serves a channel adopts nothing. -/
@[simp] theorem adoptFor_self {s : State} {c : Fin 48} {q : Service} (h : (s.chan c).serving = some q) :
    s.adoptFor c q = s := by simp [State.adoptFor, h]

/-! ## Adoption (R176) -/

/-- Adoption changes of a record its serving port and its D count only. -/
theorem adoptRecords_chan (chosen : List (Fin 48)) (hn : chosen.Nodup) (p : Service) (dropped : List Delivered)
    (s : State) (c : Fin 48) :
    (s.adoptRecords chosen p dropped).chan c =
      if c ∈ chosen then { (s.chan c).countDropped (cellsOf c dropped) with serving := some p } else s.chan c := by
  induction chosen generalizing s with
  | nil => simp [State.adoptRecords]
  | cons d rest ih =>
    have hd : d ∉ rest := (List.nodup_cons.mp hn).1
    have := ih (List.nodup_cons.mp hn).2
      (s.modChan d (fun r => { r.countDropped (cellsOf d dropped) with serving := some p }))
    simp only [State.adoptRecords, List.foldl_cons] at this ⊢
    rw [this]
    by_cases hc : c = d
    · subst hc; simp [hd]
    · have hdc : d ≠ c := fun h => hc h.symm
      simp [hc, chan_modChan_ne _ _ hdc]

/-- The overrun faults of an adoption change the log only. -/
theorem raiseOverruns_chan (chosen : List (Fin 48)) (p : Service) (dropped : List Delivered) (s : State) (c : Fin 48) :
    (s.raiseOverruns chosen p dropped).chan c = s.chan c := by
  unfold State.raiseOverruns
  generalize s.log.event = n
  induction chosen generalizing s with
  | nil => rfl
  | cons d rest ih =>
    simp only [List.foldl_cons]
    rw [ih]
    split <;> simp

/-- Adoption of chosen channels: what it makes of each record. -/
theorem adoptAll_chan (s : State) (chosen : List (Fin 48)) (hn : chosen.Nodup) (p : Service) (c : Fin 48) :
    (s.adoptAll chosen p).state.chan c =
      if c ∈ chosen then
        { (s.chan c).countDropped (cellsOf c
            (((s.inbound p.other).filter (fun x => chosen.contains x.channel)).drop
              (Config.inboundDepth - (s.inbound p).length))) with serving := some p }
      else s.chan c := by
  simp [State.adoptAll, raiseOverruns_chan, adoptRecords_chan _ hn]

end Sys2Proof.Machine
end

