-- ==== Sys2Proof/Laws/Log.lean ====
section
/-! SUPPORT. What the fault log can do with one fault (R156 to R159), said once. -/

namespace Sys2Proof.Machine

/-- Room is the log itself, or the log less its oldest record (R158). -/
theorem makeRoom_cases {log l : FaultLog} {cursors : List (BitVec 32)} (h : log.makeRoom cursors = some l) :
    (log.records.length < Config.logDepth ∧ l = log) ∨
      (∃ oldest rest, log.records = oldest :: rest ∧ cursors.any (unread oldest.number) = false ∧
        l = { log with records := rest }) ∨ (log.records = [] ∧ l = log) := by
  unfold FaultLog.makeRoom at h
  split at h
  · exact .inl ⟨‹_›, (Option.some.inj h).symm⟩
  · split at h
    · exact .inr (.inr ⟨‹_›, (Option.some.inj h).symm⟩)
    · rename_i oldest rest hr
      split at h
      · cases h
      · exact .inr (.inl ⟨oldest, rest, hr, Bool.eq_false_iff.mpr ‹¬_›, (Option.some.inj h).symm⟩)

/-- There is no room only in a log of 64 records whose oldest some PRESENT port has unread (R158). -/
theorem makeRoom_none {log : FaultLog} {cursors : List (BitVec 32)} (h : log.makeRoom cursors = none) :
    Config.logDepth ≤ log.records.length ∧
      ∃ oldest rest, log.records = oldest :: rest ∧ cursors.any (unread oldest.number) = true := by
  unfold FaultLog.makeRoom at h
  split at h
  · cases h
  · refine ⟨by omega, ?_⟩
    split at h
    · cases h
    · rename_i oldest rest hr
      split at h
      · exact ⟨oldest, rest, hr, ‹_›⟩
      · cases h

/-- Room never raises the number of records, changes neither the next number nor the lost counter, and leaves at most 63
records in a log that held at most 64 (R158). -/
theorem makeRoom_spec {log l : FaultLog} {cursors : List (BitVec 32)} (h : log.makeRoom cursors = some l)
    (hl : log.records.length ≤ 64) : l.records.length ≤ 63 ∧ l.next = log.next ∧ l.lost = log.lost := by
  rcases makeRoom_cases h with ⟨hlt, rfl⟩ | ⟨o, rest, hr, -, rfl⟩ | ⟨hr, rfl⟩
  · exact ⟨Nat.le_of_lt_succ hlt, rfl, rfl⟩
  · rw [hr] at hl
    exact ⟨Nat.le_of_succ_le_succ (by simpa using hl), rfl, rfl⟩
  · simp [hr]

/-- The log takes a fault in one of four ways: it folds it, appends it with room, appends a LOST record first, or loses
it (R156 to R159). -/
theorem accept_cases (log : FaultLog) (cursors : List (BitVec 32)) (stamp : BitVec 32) (f : FaultReport) :
    (log.folds cursors f = true ∧ ∃ r front, log.records = front ++ [r] ∧
        log.accept cursors stamp f = { log with records := front ++ [r.fold stamp f] }) ∨
      (log.lost = 0 ∧ log.accept cursors stamp f = log.appendOrLose cursors stamp f) ∨
      (log.lost ≠ 0 ∧ log.makeRoom cursors = none ∧
        log.accept cursors stamp f = { log with lost := bump log.lost }) ∨
      (log.lost ≠ 0 ∧ ∃ l, log.makeRoom cursors = some l ∧
        log.accept cursors stamp f =
          { l.append stamp (lostReport log.lost) with lost := 0 }.appendOrLose cursors stamp f) := by
  by_cases hf : log.folds cursors f = true
  · left
    refine ⟨hf, ?_⟩
    have hne : log.records ≠ [] := by
      intro h
      simp [FaultLog.folds, h] at hf
    refine ⟨log.records.getLast hne, log.records.dropLast, (List.dropLast_append_getLast hne).symm, ?_⟩
    simp [FaultLog.accept, hf, List.getLast?_eq_getLast_of_ne_nil hne]
  · right
    by_cases hl : log.lost = 0
    · exact .inl ⟨hl, by simp [FaultLog.accept, hf, hl]⟩
    · right
      cases hm : log.makeRoom cursors with
      | none => exact .inl ⟨hl, rfl, by simp [FaultLog.accept, hf, hl, hm]⟩
      | some l => exact .inr ⟨hl, l, rfl, by simp [FaultLog.accept, hf, hl, hm]⟩

/-- With the lost counter at 0, a fault that is not folded is appended, or it is the first one lost (R159). -/
theorem appendOrLose_cases (log : FaultLog) (cursors : List (BitVec 32)) (stamp : BitVec 32) (f : FaultReport) :
    (∃ l, log.makeRoom cursors = some l ∧ log.appendOrLose cursors stamp f = l.append stamp f) ∨
      (log.makeRoom cursors = none ∧ log.appendOrLose cursors stamp f = { log with lost := 1 }) := by
  unfold FaultLog.appendOrLose
  cases h : log.makeRoom cursors with
  | none => exact .inr ⟨rfl, rfl⟩
  | some l => exact .inl ⟨l, rfl, rfl⟩

@[simp] theorem append_length (log : FaultLog) (stamp : BitVec 32) (f : FaultReport) :
    (log.append stamp f).records.length = log.records.length + 1 := by simp [FaultLog.append]

@[simp] theorem append_next (log : FaultLog) (stamp : BitVec 32) (f : FaultReport) :
    (log.append stamp f).next = log.next + 1 := rfl

@[simp] theorem append_lost (log : FaultLog) (stamp : BitVec 32) (f : FaultReport) :
    (log.append stamp f).lost = log.lost := rfl

/-- Taking a fault changes neither what waits nor the model's own fields. -/
theorem accept_rest (log : FaultLog) (cursors : List (BitVec 32)) (stamp : BitVec 32) (f : FaultReport) :
    (log.accept cursors stamp f).waiting = log.waiting ∧ (log.accept cursors stamp f).turns = log.turns ∧
      (log.accept cursors stamp f).event = log.event := by
  have hroom : ∀ log l : FaultLog, log.makeRoom cursors = some l →
      l.waiting = log.waiting ∧ l.turns = log.turns ∧ l.event = log.event := by
    intro log l h
    rcases makeRoom_cases h with ⟨-, rfl⟩ | ⟨_, _, -, -, rfl⟩ | ⟨-, rfl⟩ <;> exact ⟨rfl, rfl, rfl⟩
  have hlose : ∀ log : FaultLog, (log.appendOrLose cursors stamp f).waiting = log.waiting ∧
      (log.appendOrLose cursors stamp f).turns = log.turns ∧ (log.appendOrLose cursors stamp f).event = log.event := by
    intro log
    rcases appendOrLose_cases log cursors stamp f with ⟨l, hl, e⟩ | ⟨-, e⟩ <;> rw [e]
    · exact hroom log l hl
    · exact ⟨rfl, rfl, rfl⟩
  rcases accept_cases log cursors stamp f with ⟨-, _, _, -, e⟩ | ⟨-, e⟩ | ⟨-, -, e⟩ | ⟨-, l, hl, e⟩ <;> rw [e]
  · exact ⟨rfl, rfl, rfl⟩
  · exact hlose log
  · exact ⟨rfl, rfl, rfl⟩
  · obtain ⟨h1, h2, h3⟩ := hroom log l hl
    obtain ⟨k1, k2, k3⟩ := hlose { l.append stamp (lostReport log.lost) with lost := 0 }
    exact ⟨k1.trans h1, k2.trans h2, k3.trans h3⟩

/-! ## Faults that wait, and the log's turns (R156) -/

/-- The log takes the fault at a place, or nothing changes: there is none, or an earlier fault of its event waits. -/
theorem takeFault_cases (log : FaultLog) (link : Port → PortLink) (i : Nat) :
    log.takeFault link i = log ∨
      ∃ f, log.waiting[i]? = some f ∧ (∀ e ∈ log.waiting.take i, e.event ≠ f.event) ∧
        log.takeFault link i =
          { log with waiting := log.waiting.eraseIdx i }.accept (presentCursors (asJudged link f.report)) f.stamp
            (log.asTaken link f.report) := by
  unfold FaultLog.takeFault
  split
  · split
    · exact .inl rfl
    · rename_i f _ h
      exact .inr ⟨f, ‹_›, fun e he hf => h (List.any_eq_true.2 ⟨e, he, decide_eq_true hf⟩), rfl⟩
  · exact .inl rfl

/-- What the taking of a fault, the removal of a waiting one and the naming of turns keep, a turn keeps. -/
theorem turn_keeps {P : FaultLog → Prop}
    (haccept : ∀ log cursors stamp f, P log → P (log.accept cursors stamp f))
    (herase : ∀ log i, P log → P { log with waiting := log.waiting.eraseIdx i })
    (hturns : ∀ log turns, P log → P { log with turns := turns })
    (log : FaultLog) (link : Port → PortLink) (h : P log) : P (log.turn link) := by
  have htake : ∀ l i, P l → P (l.takeFault link i) := by
    intro l i hl
    rcases takeFault_cases l link i with e | ⟨f, -, -, e⟩
    · rwa [e]
    · rw [e]
      exact haccept _ _ _ _ (herase _ _ hl)
  have hfold : ∀ {α : Type} (g : α → Nat) (xs : List α) (l : FaultLog), P l →
      P (xs.foldl (fun l x => l.takeFault link (g x)) l) := by
    intro α g xs
    induction xs with
    | nil => exact fun l hl => hl
    | cons x xs ih => exact fun l hl => ih _ (htake l _ hl)
  unfold FaultLog.turn
  split
  · exact hfold id _ _ (hturns _ _ h)
  · exact hfold (fun _ => 0) _ _ h

/-- What the taking of a fault, the removal of a waiting one, the naming of turns and the coming of a fault keep, a raise
keeps. -/
theorem raise_keeps {P : FaultLog → Prop}
    (haccept : ∀ log cursors stamp f, P log → P (log.accept cursors stamp f))
    (herase : ∀ log i, P log → P { log with waiting := log.waiting.eraseIdx i })
    (hturns : ∀ log turns, P log → P { log with turns := turns })
    (hwait : ∀ log stamp f, P log → P (log.wait stamp f))
    (s : State) (k : FaultKind) (c : Option (Fin 48)) (p : Option Port) (n : Nat) (h : P s.log) :
    P (s.raise k c p n).log :=
  turn_keeps haccept herase hturns _ _ (hwait _ _ _ h)

/-- The numbers of the waiting faults stay below the next event's through a turn and a raise. -/
theorem raise_events (s : State) (k : FaultKind) (c : Option (Fin 48)) (p : Option Port) (n : Nat)
    (h : ∀ f ∈ s.log.waiting, f.event < s.log.event) :
    ∀ f ∈ (s.raise k c p n).log.waiting, f.event < (s.raise k c p n).log.event := by
  refine raise_keeps (P := fun log => ∀ f ∈ log.waiting, f.event < log.event) ?_ ?_ ?_ ?_ s k c p n h
  · intro log cursors stamp f hl
    obtain ⟨h1, -, h3⟩ := accept_rest log cursors stamp f
    rwa [h1, h3]
  · exact fun log i hl f hf => hl f (List.mem_of_mem_eraseIdx hf)
  · exact fun log turns hl => hl
  · intro log stamp f hl g hg
    rcases List.mem_append.1 hg with hg | hg
    · exact Nat.lt_succ_of_lt (hl g hg)
    · rw [List.mem_singleton.1 hg]
      exact Nat.lt_succ_self _

/-- A fault that is not of a port's presence is judged with the ports as they stand. -/
theorem asJudged_other (link : Port → PortLink) {f : FaultReport} (ha : f.kind ≠ .portAbsent)
    (hr : f.kind ≠ .portReturned) : asJudged link f = link := by
  funext p
  unfold asJudged
  split
  · split <;> first | contradiction | rfl
  · rfl

/-- With no fault waiting and no turn named, the log takes a raised fault at once. -/
theorem raise_at_once (s : State) (k : FaultKind) (c : Option (Fin 48)) (p : Option Port) (n : Nat)
    (hw : s.log.waiting = []) (ht : s.log.turns = []) :
    let f : FaultReport := { kind := k, channel := c, port := p, detail := BitVec.ofNat 16 n }
    s.raise k c p n =
      { s with
        log := { s.log with event := s.log.event + 1 }.accept (presentCursors (asJudged s.link f)) s.timebase.tick
          (s.log.asTaken s.link f) } := by
  cases s with
  | mk _ _ _ _ _ _ _ _ _ _ _ _ _ _ log =>
    cases log
    cases hw
    cases ht
    simp [State.raise, FaultLog.wait, FaultLog.turn, FaultLog.takeFault]
    rfl

end Sys2Proof.Machine
end

