-- ==== Sys2Proof/Laws/Only.lean ====
section
/-! SUPPORT. Frames of the operations on one channel. `OnlyChannel c s t` says once what an operation on channel c may
touch: the record of c, the inbound queues, the log, the nonce source, the stray count, the line and the control arbiter's
last channel. Each lemma `<operation>_only` says that the operation touches nothing else. -/

namespace Sys2Proof.Machine

/-- Nothing but the record of channel c and the shared counters and queues differs between two states. -/
structure OnlyChannel (c : Fin 48) (s t : State) : Prop where
  others : ∀ d, c ≠ d → t.chan d = s.chan d
  masters : t.masters = s.masters
  timebase : t.timebase = s.timebase
  sequencer : t.sequencer = s.sequencer
  receive : t.receive = s.receive
  renewalParams : t.renewalParams = s.renewalParams
  qualityParams : t.qualityParams = s.qualityParams
  presencePeriod : t.presencePeriod = s.presencePeriod
  periodTimer : t.periodTimer = s.periodTimer
  portA : t.portA = s.portA
  portB : t.portB = s.portB
  portK : t.portK = s.portK
  lastPort : t.lastPort = s.lastPort
  startup : t.startup = s.startup
  halted : t.halted = s.halted
  resetLine : t.resetLine = s.resetLine
  responses : t.responses = s.responses
  pending : t.pending = s.pending

namespace OnlyChannel

theorem refl (c : Fin 48) (s : State) : OnlyChannel c s s := by constructor <;> intros <;> rfl

theorem trans {c : Fin 48} {s t u : State} (h : OnlyChannel c s t) (k : OnlyChannel c t u) : OnlyChannel c s u where
  others d hd := (k.others d hd).trans (h.others d hd)
  masters := k.masters.trans h.masters
  timebase := k.timebase.trans h.timebase
  sequencer := k.sequencer.trans h.sequencer
  receive := k.receive.trans h.receive
  renewalParams := k.renewalParams.trans h.renewalParams
  qualityParams := k.qualityParams.trans h.qualityParams
  presencePeriod := k.presencePeriod.trans h.presencePeriod
  periodTimer := k.periodTimer.trans h.periodTimer
  portA := k.portA.trans h.portA
  portB := k.portB.trans h.portB
  portK := k.portK.trans h.portK
  lastPort := k.lastPort.trans h.lastPort
  startup := k.startup.trans h.startup
  halted := k.halted.trans h.halted
  resetLine := k.resetLine.trans h.resetLine
  responses := k.responses.trans h.responses
  pending := k.pending.trans h.pending

theorem link {c : Fin 48} {s t : State} (h : OnlyChannel c s t) (p : Port) : t.link p = s.link p := by
  cases p
  · exact h.portA
  · exact h.portB
  · exact h.portK

end OnlyChannel

/-! ## The plain updates -/

theorem setChan_only (s : State) (c : Fin 48) (r : Channel) : OnlyChannel c s (s.setChan c r) := by
  constructor <;> first | (intro d h; exact chan_setChan_ne s r h) | rfl

theorem modChan_only (s : State) (c : Fin 48) (f : Channel → Channel) : OnlyChannel c s (s.modChan c f) :=
  setChan_only s c _

theorem raise_only (s : State) (c : Fin 48) (k : FaultKind) (o : Option (Fin 48)) (p : Option Port) (n : Nat) :
    OnlyChannel c s (s.raise k o p n) := by constructor <;> intros <;> rfl

theorem raiseFor_only (s : State) (c : Fin 48) (k : FaultKind) (n : Nat) : OnlyChannel c s (s.raiseFor k c n) :=
  raise_only s c k _ _ n

theorem inEvent_only (s : State) (c : Fin 48) (n : Nat) : OnlyChannel c s (s.inEvent n) := by
  constructor <;> intros <;> rfl

/-- Two operations on one channel, made one event, are one on that channel. -/
theorem asOneEvent_only (s : State) (c : Fin 48) {first second : State → State}
    (h : ∀ s, OnlyChannel c s (first s)) (k : ∀ s, OnlyChannel c s (second s)) :
    OnlyChannel c s (s.asOneEvent first second) :=
  (((h s).trans (inEvent_only _ c _)).trans (k _)).trans (inEvent_only _ c _)

theorem afterDraw_only (s : State) (c : Fin 48) : OnlyChannel c s s.afterDraw := by constructor <;> intros <;> rfl

theorem countStray_only (s : State) (c : Fin 48) : OnlyChannel c s s.countStray := by constructor <;> intros <;> rfl

theorem setInbound_only (s : State) (c : Fin 48) (q : Service) (l : List Delivered) :
    OnlyChannel c s (s.setInbound q l) := by cases q <;> (constructor <;> intros <;> rfl)

theorem lineOut_only (s : State) (c : Fin 48) (x : Option Cell) : OnlyChannel c s { s with lineOut := x } := by
  constructor <;> intros <;> rfl

/-! ## Renewal -/

theorem startIfDue_only (s : State) (c : Fin 48) : OnlyChannel c s (s.startIfDue c) := by
  unfold State.startIfDue
  split
  · exact (modChan_only s c _).trans (afterDraw_only _ c)
  · exact .refl c s

theorem trigger_only (s : State) (c : Fin 48) (k : Cause) : OnlyChannel c s (s.trigger c k) := by
  unfold State.trigger
  split
  · exact (modChan_only s c _).trans (startIfDue_only _ c)
  · exact .refl c s

theorem judgeAge_only (s : State) (c : Fin 48) : OnlyChannel c s (s.judgeAge c) := by
  unfold State.judgeAge
  split
  · exact trigger_only s c _
  · exact .refl c s

theorem failRenewal_only (s : State) (c : Fin 48) : OnlyChannel c s (s.failRenewal c) :=
  (raiseFor_only s c _ _).trans (modChan_only _ c _)

theorem offerExpired_only (s : State) (c : Fin 48) : OnlyChannel c s (s.offerExpired c) := by
  unfold State.offerExpired
  split
  · split
    · exact modChan_only s c _
    · exact failRenewal_only s c
  · exact .refl c s

theorem cutoverExpired_only (s : State) (c : Fin 48) : OnlyChannel c s (s.cutoverExpired c) := by
  unfold State.cutoverExpired
  split
  · split
    · exact (modChan_only s c _).trans (startIfDue_only _ c)
    · exact .refl c s
  · exact .refl c s

theorem keyingEntry_only (s : State) (c : Fin 48) : OnlyChannel c s (s.keyingEntry c) := by
  unfold State.keyingEntry
  split
  · exact (modChan_only s c _).trans (trigger_only _ c _)
  · exact .refl c s

theorem judgeRequest_only (s : State) (c : Fin 48) : OnlyChannel c s (s.judgeRequest c) := by
  unfold State.judgeRequest
  split
  · exact trigger_only s c _
  · exact countStray_only s c

/-! ## Closure, sending and quality -/

theorem removeInbound_only (s : State) (c : Fin 48) : OnlyChannel c s (s.removeInbound c) := by
  unfold State.removeInbound
  split
  · exact setInbound_only s c _ _
  · exact .refl c s

theorem teardown_only (s : State) (c : Fin 48) : OnlyChannel c s (s.teardown c) :=
  (removeInbound_only s c).trans (modChan_only _ c _)

theorem closeNow_only (s : State) (c : Fin 48) : OnlyChannel c s (s.closeNow c) :=
  (teardown_only s c).trans (setChan_only _ c _)

theorem closingEnd_only (s : State) (c : Fin 48) : OnlyChannel c s (s.closingEnd c) := by
  unfold State.closingEnd
  split
  · exact setChan_only s c _
  · exact .refl c s

theorem judgeHardLimit_only (s : State) (c : Fin 48) : OnlyChannel c s (s.judgeHardLimit c) := by
  unfold State.judgeHardLimit
  split
  · exact (modChan_only s c _).trans (raiseFor_only _ c _ _)
  · exact .refl c s

theorem judgePreset_only (s : State) (c : Fin 48) : OnlyChannel c s (s.judgePreset c) := by
  unfold State.judgePreset
  split
  · exact trigger_only s c _
  · exact .refl c s

theorem loadData_only (s : State) (c : Fin 48) : OnlyChannel c s (s.loadData c) := by
  unfold State.loadData
  split
  · split
    · exact (((lineOut_only s c _).trans (modChan_only _ c _)).trans (judgeHardLimit_only _ c)).trans (judgePreset_only _ c)
    · exact lineOut_only s c _
  · exact lineOut_only s c _

theorem storm_only (s : State) (c : Fin 48) : OnlyChannel c s (s.storm c) :=
  ((modChan_only s c _).trans (raiseFor_only _ c _ _)).trans (trigger_only _ c _)

theorem judgeStorm_only (s : State) (c : Fin 48) : OnlyChannel c s (s.judgeStorm c) := by
  unfold State.judgeStorm
  split
  · split
    · exact (modChan_only s c _).trans (storm_only _ c)
    · exact modChan_only s c _
  · exact .refl c s

theorem countT_only (s : State) (c : Fin 48) : OnlyChannel c s (s.countT c) :=
  (modChan_only s c _).trans (judgeStorm_only _ c)

theorem scoreChannel_only (s : State) (c : Fin 48) : OnlyChannel c s (s.scoreChannel c) := by
  unfold State.scoreChannel
  split
  · exact .refl c s
  · dsimp only
    split
    · exact modChan_only s c _
    · split
      · exact (modChan_only s c _).trans (raiseFor_only _ c _ _)
      · exact (modChan_only s c _).trans (raiseFor_only _ c _ _)

theorem judgeSilence_only (s : State) (c : Fin 48) : OnlyChannel c s (s.judgeSilence c) := by
  unfold State.judgeSilence
  split
  · exact (raiseFor_only s c _ _).trans (closeNow_only _ c)
  · exact .refl c s

/-! ## Acceptance -/

theorem judgeSyncLoss_only (s : State) (c : Fin 48) : OnlyChannel c s (s.judgeSyncLoss c) := by
  unfold State.judgeSyncLoss
  split
  · exact ((raiseFor_only s c _ _).trans (modChan_only _ c _)).trans (afterDraw_only _ c)
  · exact .refl c s

theorem raiseSyncLoss_only (s : State) (c : Fin 48) : OnlyChannel c s (s.raiseSyncLoss c) := by
  unfold State.raiseSyncLoss
  split
  · exact (modChan_only s c _).trans (judgeSyncLoss_only _ c)
  · exact .refl c s

theorem resyncExpired_only (s : State) (c : Fin 48) : OnlyChannel c s (s.resyncExpired c) := by
  unfold State.resyncExpired
  split
  · split
    · exact modChan_only s c _
    · exact ((modChan_only s c _).trans (raiseFor_only _ c _ _)).trans (trigger_only _ c _)
  · exact .refl c s

theorem rejectE_only (s : State) (c : Fin 48) : OnlyChannel c s (s.rejectE c) :=
  (modChan_only s c _).trans (raiseSyncLoss_only _ c)

theorem headerError_only (s : State) (c : Fin 48) : OnlyChannel c s (s.headerError c) := by
  unfold State.headerError
  split
  · exact .refl c s
  · exact rejectE_only s c
  all_goals exact modChan_only s c _

theorem deliver_only (s : State) (c : Fin 48) (x : Delivered) : OnlyChannel c s (s.deliver c x) := by
  unfold State.deliver
  split
  · exact .refl c s
  · split
    · exact setInbound_only s c _ _
    · exact (modChan_only s c _).trans (raise_only _ c _ _ _ _)

theorem dispose_only (s : State) (c : Fin 48) (k : CellKind) (x : Delivered) : OnlyChannel c s (s.dispose c k x) := by
  unfold State.dispose
  split
  · split
    · exact modChan_only s c _
    · exact deliver_only s c x
  · exact .refl c s

theorem checkTraffic_only (s : State) (c : Fin 48) (k : CellKind) (sel : Selection) (cell : Cell) :
    OnlyChannel c s (s.checkTraffic c k sel cell) := by
  unfold State.checkTraffic
  split
  · exact (modChan_only s c _).trans (dispose_only _ c _ _)
  · exact asOneEvent_only s c (raiseSyncLoss_only · c) (countT_only · c)

theorem acceptSound_only (s : State) (c : Fin 48) (k : CellKind) (cell : Cell) :
    OnlyChannel c s (s.acceptSound c k cell) := by
  unfold State.acceptSound
  split
  · exact rejectE_only s c
  · split
    · exact (modChan_only s c _).trans (raiseSyncLoss_only _ c)
    · exact modChan_only s c _
    · exact modChan_only s c _
    · exact checkTraffic_only s c _ _ _

theorem acceptTraffic_only (s : State) (c : Fin 48) (k : CellKind) (cell : Cell) :
    OnlyChannel c s (s.acceptTraffic c k cell) := by
  unfold State.acceptTraffic
  split
  · exact headerError_only s c
  · split
    · exact headerError_only s c
    · split
      · exact modChan_only s c _
      · exact acceptSound_only s c _ _

theorem dataArrival_only (s : State) (c : Fin 48) (x : Option Cell) : OnlyChannel c s (s.dataArrival c x) := by
  unfold State.dataArrival State.gap State.idleArrival
  split
  · split
    · exact modChan_only s c _
    · exact .refl c s
  · split
    · split
      · exact modChan_only s c _
      · exact .refl c s
    · exact acceptTraffic_only s c _ _
    · exact acceptTraffic_only s c _ _
    · exact headerError_only s c

/-! ## Control cells -/

theorem judgeMark_only (s : State) (c : Fin 48) (sel : Selection) (cell : Cell) :
    OnlyChannel c s (s.judgeMark c sel cell) := by
  unfold State.judgeMark
  split
  · exact modChan_only s c _
  · exact countStray_only s c

theorem judgeResync_only (s : State) (c : Fin 48) (cell : Cell) : OnlyChannel c s (s.judgeResync c cell) := by
  unfold State.judgeResync
  split
  · exact modChan_only s c _
  · exact countStray_only s c

theorem verifyAccept_only (s : State) (c : Fin 48) (p : PendingEntry) (cell : Cell) :
    OnlyChannel c s (s.verifyAccept c p cell) := by
  unfold State.verifyAccept
  split
  · exact countT_only s c
  · split
    · exact modChan_only s c _
    · exact countT_only s c

theorem judgeAccept_only (s : State) (c : Fin 48) (cell : Cell) : OnlyChannel c s (s.judgeAccept c cell) := by
  unfold State.judgeAccept
  split
  · exact countStray_only s c
  · split
    · exact countStray_only s c
    · exact .refl c s
    · exact .refl c s
    · split
      · exact countStray_only s c
      · split
        · exact verifyAccept_only s c _ _
        · exact countStray_only s c

theorem handleControl_only (s : State) (c : Fin 48) (k : CellKind) (sel : Selection) (cell : Cell) :
    OnlyChannel c s (s.handleControl c k sel cell) := by
  unfold State.handleControl
  split
  · exact judgeRequest_only s c
  · exact judgeResync_only s c _
  · exact judgeMark_only s c _ _
  · exact .refl c s

theorem judgeControl_only (s : State) (c : Fin 48) (k : CellKind) (cell : Cell) :
    OnlyChannel c s (s.judgeControl c k cell) := by
  unfold State.judgeControl
  split
  · exact countStray_only s c
  · split
    · exact modChan_only s c _
    · split
      · exact (modChan_only s c _).trans (handleControl_only _ c _ _ _)
      · exact countT_only s c

theorem routeControl_only (s : State) (c : Fin 48) (k : CellKind) (cell : Cell) :
    OnlyChannel c s (s.routeControl c k cell) := by
  unfold State.routeControl
  split
  · exact modChan_only s c _
  · split
    · exact judgeAccept_only s c _
    · exact judgeControl_only s c _ _

end Sys2Proof.Machine
end

