-- ==== Sys2Proof/Laws/Records.lean ====
section
/-! SUPPORT. The operations on one record and what they can do: pending lists, triggers, the start of a renewal, closure. -/

namespace Sys2Proof.Machine

/-! ## Pending lists (R125, R126) -/

/-- What a list holds after a cell has been queued: that cell, and every entry of the other families. -/
theorem mem_enqueue {x cell : ControlCell} {list : List ControlCell} :
    x ∈ enqueue cell list ↔ x = cell ∨ (x ∈ list ∧ x.family ≠ cell.family) := by
  unfold enqueue
  split
  · rename_i h
    obtain ⟨y, hy, hf⟩ := by simpa using h
    constructor
    · intro hx
      obtain ⟨z, hz, rfl⟩ := List.mem_map.mp hx
      split
      · exact .inl rfl
      · exact .inr ⟨hz, ‹_›⟩
    · rintro (rfl | ⟨hx, hne⟩)
      · exact List.mem_map.mpr ⟨y, hy, by simp [hf]⟩
      · exact List.mem_map.mpr ⟨x, hx, by simp [hne]⟩
  · rename_i h
    have hno : ∀ y ∈ list, y.family ≠ cell.family := by simpa using h
    simp only [List.mem_append, List.mem_singleton]
    constructor
    · rintro (hx | rfl)
      · exact .inr ⟨hx, hno x hx⟩
      · exact .inl rfl
    · rintro (rfl | ⟨hx, -⟩)
      · exact .inr rfl
      · exact .inl hx

/-- Queueing keeps at most one entry of each family (R124). -/
theorem enqueue_families {cell : ControlCell} {list : List ControlCell} (h : (list.map ControlCell.family).Nodup) :
    ((enqueue cell list).map ControlCell.family).Nodup := by
  unfold enqueue
  split
  · have : (list.map (fun x => if x.family = cell.family then cell else x)).map ControlCell.family =
        list.map ControlCell.family := by
      rw [List.map_map]
      apply List.map_congr_left
      intro x _
      simp only [Function.comp]
      split
      · exact (‹x.family = cell.family›).symm
      · rfl
    rwa [this]
  · rename_i hn
    have hno : ∀ y ∈ list, y.family ≠ cell.family := by simpa using hn
    simp only [List.map_append, List.map_cons, List.map_nil]
    refine List.nodup_append.mpr ⟨h, by simp, ?_⟩
    intro a ha b hb
    obtain ⟨y, hy, rfl⟩ := List.mem_map.mp ha
    simp only [List.mem_singleton] at hb
    subst hb
    exact hno y hy

/-- Withdrawal leaves the entries of the other families, in their order (R126). -/
theorem mem_withdraw {r : Channel} {x : ControlCell} {f : Family} :
    x ∈ (r.withdraw f).pendingCells ↔ x ∈ r.pendingCells ∧ x.family ≠ f := by simp [Channel.withdraw]

theorem withdraw_families {r : Channel} {f : Family} (h : (r.pendingCells.map ControlCell.family).Nodup) :
    ((r.withdraw f).pendingCells.map ControlCell.family).Nodup :=
  h.sublist (List.filter_sublist.map _)

/-! ## Triggers and starts (R101, R103, R105) -/

/-- A trigger reaches a KEYING or ACTIVE channel only (R101). -/
theorem trigger_of_not {s : State} {c : Fin 48} {k : Cause} (h : (s.chan c).triggerable = false) :
    s.trigger c k = s := by simp [State.trigger, h]

/-- The record of a channel after a trigger has reached it: the flag is noted, and a renewal starts when R103's conditions
hold then. -/
theorem trigger_chan {s : State} {c : Fin 48} {k : Cause} (h : (s.chan c).triggerable = true) :
    (s.trigger c k).chan c =
      if ((s.chan c).note k).startDue then
        ((s.chan c).note k).startRenewal s.renewalParams.retryLimit s.nextNonce
      else (s.chan c).note k := by
  simp only [State.trigger, h, if_true, State.startIfDue, chan_modChan_same]
  split <;> simp [State.nextNonce]

/-- The record after a start that is due, or not due. -/
theorem startIfDue_chan (s : State) (c : Fin 48) :
    (s.startIfDue c).chan c =
      if (s.chan c).startDue then (s.chan c).startRenewal s.renewalParams.retryLimit s.nextNonce else s.chan c := by
  simp only [State.startIfDue]
  split <;> simp

/-- A forcing trigger on a KEYING or ACTIVE channel in IDLE starts a renewal whatever the hold-off (R103). -/
theorem startDue_of_forcing {r : Channel} {k : Cause} (ht : r.triggerable = true) (hi : r.renewal = .idle)
    (hk : k.forcing = true) : (r.note k).startDue = true := by
  have h : (r.note k).triggerable = true := ht
  have hr : (r.note k).renewal = .idle := hi
  have hw : (r.note k).wanted = some k := by simp [Channel.note, hk]
  rw [Channel.startDue, h, hr, hw]
  simp [hk]

/-! ## Closure (R12, R15) -/

/-- An immediate closure leaves the closed values (R4, R15). -/
@[simp] theorem closeNow_chan (s : State) (c : Fin 48) : (s.closeNow c).chan c = Channel.closedValues := by
  simp [State.closeNow]

/-- A teardown leaves the channel state, the serving port, the master slot, the shop code, the parameters and the quality
state (R12). -/
theorem teardown_leaves (r : Channel) :
    r.teardown.state = r.state ∧ r.teardown.serving = r.serving ∧ r.teardown.master = r.master ∧
      r.teardown.shop = r.shop ∧ r.teardown.preset = r.preset ∧ r.teardown.ageLimit = r.ageLimit ∧
      r.teardown.quality = r.quality := ⟨rfl, rfl, rfl, rfl, rfl, rfl, rfl⟩

end Sys2Proof.Machine
end

