-- ==== Sys2Proof/Laws/Slots.lean ====
section
/-! SUPPORT. What a slot boundary and a slot's load event can do (R36, R42). -/

namespace Sys2Proof.Machine

/-- The state after a slot has opened is the state before it but for the entry kept, the load event to be taken and the
line. -/
theorem openSlot_cases (s : State) :
    (s.servedEntry = none ∧ s.openSlot = { s.keep none with lineOut := s.unservedOut }) ∨
      ∃ k, s.servedEntry = some k ∧
        s.openSlot = { s with sequencer := { s.sequencer with kept := some k, loadDue := true }, lineOut := none } := by
  unfold State.openSlot
  cases h : s.servedEntry with
  | none => exact .inl ⟨rfl, rfl⟩
  | some k => exact .inr ⟨k, rfl, rfl⟩

/-- A load event that is not to be taken is not taken. -/
@[simp] theorem takeDueLoad_of_not_due {s : State} (h : s.sequencer.loadDue = false) : s.takeDueLoad = some s := by
  simp [State.takeDueLoad, h]

/-- A load event that is to be taken is that of the kept entry. -/
theorem takeDueLoad_of_due {s : State} {k : SlotKind} (h : s.sequencer.loadDue = true)
    (hk : s.sequencer.kept = some k) : s.takeDueLoad = (s.keep (some k)).loadEvent k := by
  simp [State.takeDueLoad, h, hk]

/-- Either nothing is to be taken and nothing changes, or the load event of the kept entry is taken. -/
theorem takeDueLoad_cases {s t : State} (h : s.takeDueLoad = some t) :
    ((s.sequencer.loadDue = false ∨ s.sequencer.kept = none) ∧ t = s) ∨
      ∃ k, s.sequencer.loadDue = true ∧ s.sequencer.kept = some k ∧ (s.keep (some k)).loadEvent k = some t := by
  unfold State.takeDueLoad at h
  split at h
  · next k hd hk => exact .inr ⟨k, hd, hk, h⟩
  · next hno =>
    refine .inl ⟨?_, (Option.some.inj h).symm⟩
    cases hd : s.sequencer.loadDue with
    | false => exact .inl rfl
    | true =>
      cases hk : s.sequencer.kept with
      | none => exact .inr rfl
      | some k => exact (hno k hd hk).elim

/-- What the line holds before a load event does not matter to it. -/
theorem loadEvent_line (s : State) (k : SlotKind) (x : Option Cell) :
    ({ s with lineOut := x } : State).loadEvent k = s.loadEvent k := by
  cases k <;> rfl

/-- A load event changes the record of one channel at most, and the line and what the arbiter and the queues hold. -/
theorem loadEvent_only {s t : State} {k : SlotKind} (h : s.loadEvent k = some t) : ∃ c, OnlyChannel c s t := by
  cases k with
  | unused => exact ⟨0, Option.some.inj h ▸ lineOut_only s 0 none⟩
  | data c => exact ⟨c, Option.some.inj h ▸ loadData_only s c⟩
  | control =>
    simp only [State.loadEvent, State.loadControl] at h
    split at h
    · exact ⟨0, Option.some.inj h ▸ lineOut_only s 0 _⟩
    · next c _ =>
      split at h
      · exact ⟨0, Option.some.inj h ▸ lineOut_only s 0 _⟩
      · next x _ _ =>
        obtain ⟨cell, -, rfl⟩ := Option.map_eq_some_iff.mp h
        have o := modChan_only s c (fun r => { r with pendingCells := r.pendingCells.tail }.sent x s.renewalParams)
        exact ⟨c, ⟨o.others, rfl, rfl, rfl, rfl, rfl, rfl, rfl, rfl, rfl, rfl, rfl, rfl, rfl, rfl, rfl, rfl, rfl⟩⟩

/-- A served slot whose load event is taken with its boundary: the entry is kept, and the load event is that entry's. -/
theorem beginSlot_now_of_served {s : State} {k : SlotKind} (h : s.servedEntry = some k) :
    s.beginSlot .now = (s.keep (some k)).loadEvent k := by
  have : s.beginSlot .now = ({ s.keep (some k) with lineOut := none } : State).loadEvent k := by
    simp [State.beginSlot, State.openSlot, State.takeDueLoad, State.keep, h]
  rw [this, loadEvent_line]

/-- A slot that is not served begins with nothing kept, whenever a load event would be taken. -/
theorem beginSlot_of_unserved {s : State} (load : LoadTime) (h : s.servedEntry = none) :
    s.beginSlot load = some { s.keep none with lineOut := s.unservedOut } := by
  cases load <;> simp [State.beginSlot, State.openSlot, State.takeDueLoad, State.keep, h]

/-! ## The next slot -/

@[simp] theorem nextSlot_slot (s : State) : s.nextSlot.sequencer.slot = bump s.sequencer.slot := rfl

@[simp] theorem nextSlot_kept (s : State) : s.nextSlot.sequencer.kept = s.sequencer.kept := rfl

@[simp] theorem nextSlot_loadDue (s : State) : s.nextSlot.sequencer.loadDue = s.sequencer.loadDue := rfl

@[simp] theorem nextSlot_map (s : State) : s.nextSlot.sequencer.map = s.sequencer.map := rfl

@[simp] theorem nextSlot_frame (s : State) : s.nextSlot.sequencer.frame = s.sequencer.frame := rfl

@[simp] theorem nextSlot_timebase (s : State) : s.nextSlot.timebase = s.timebase := rfl

@[simp] theorem nextSlot_chan (s : State) (c : Fin 48) : s.nextSlot.chan c = s.chan c := rfl

/-- A state whose next slot is served: its number is the next one, and its entry that slot's. -/
theorem servedEntry_nextSlot {s : State} {k : SlotKind} (h : s.servesNext k) :
    s.nextSlot.servedEntry = some k ∧ bump s.sequencer.slot = s.sequencer.slot + 1 := by
  obtain ⟨-, hl, n, hn, hf, hk⟩ := h
  have hb : bump s.sequencer.slot = n.val := by unfold bump; omega
  refine ⟨?_, by omega⟩
  unfold State.servedEntry
  rw [if_pos ⟨hl, by simpa [hb] using hf⟩, nextSlot_slot, hb, nextSlot_map, ← hk]
  simp

/-- SLOT_BOUNDARY that takes a served slot's load event, with the boundary or later in the slot, ends as that load event
does (R36). -/
theorem execSlotBoundary_of_takesLoad {s t : State} {part : SlotPart} {k : SlotKind} (h : s.takesLoad part k t) :
    execSlotBoundary s part = outcomeOf (t.loadEvent k) := by
  match part, h with
  | .boundary .now, ⟨hd, hn, ht⟩ =>
    obtain ⟨he, hb⟩ := servedEntry_nextSlot hn
    simp only [execSlotBoundary, hn.1, Bool.false_eq_true, if_false, takeDueLoad_of_not_due hd, Option.bind_some,
      beginSlot_now_of_served he]
    simp [State.keep, State.nextSlot, State.inNextSlot, hb, hd, hn.1, ht]
  | .load, ⟨hr, hd, hk, ht⟩ =>
    have : s.keep (some k) = t := by simp [ht, State.keep, ← hk]
    rw [execSlotBoundary, if_neg (by simp [hr])]
    rw [takeDueLoad_of_due hd hk, this]

end Sys2Proof.Machine
end

