-- ==== Sys2Proof/Laws/Tick.lean ====
section
/-! SUPPORT. What a tick does (R27, R28): the counts that advance, and the works that follow in any order. -/

namespace Sys2Proof.Machine

@[simp] theorem advance_chan (s : State) (k : TickKind) (c : Fin 48) :
    (s.advance k).chan c = (s.chan c).tick k := by
  simp [State.advance, State.chan, State.mapChans, mapTable_getElem]

@[simp] theorem advance_link (s : State) (k : TickKind) (p : Port) : (s.advance k).link p = (s.link p).tick := by
  cases p <;> rfl

@[simp] theorem advance_inbound (s : State) (k : TickKind) (q : Service) : (s.advance k).inbound q = s.inbound q := by
  cases q <;> rfl

@[simp] theorem advance_tickCounter (s : State) (k : TickKind) : (s.advance k).timebase.tick = s.timebase.tick + 1 := rfl

@[simp] theorem advance_trunk (s : State) (k : TickKind) : (s.advance k).timebase.trunk = s.timebase.trunk := rfl

@[simp] theorem advance_sequencer (s : State) (k : TickKind) : (s.advance k).sequencer = s.sequencer.applyPending := rfl

@[simp] theorem advance_log (s : State) (k : TickKind) : (s.advance k).log = s.log := rfl

@[simp] theorem advance_masters (s : State) (k : TickKind) : (s.advance k).masters = s.masters := rfl

/-- The slot map after pending values have taken effect (R41). -/
theorem applyPending_map (q : Sequencer) (n : Nat) (h : n < 64) : q.applyPending.map[n] = (q.map[n]).apply := by
  simp [Sequencer.applyPending, mapTable_getElem]

/-- The order of the works is a rearrangement of the due ones: each is carried out once (log entry 6). -/
theorem inOrder_perm (first due : List TickWork) : (inOrder first due).Perm due := by
  induction first generalizing due with
  | nil => exact .refl due
  | cons w ws ih =>
    unfold inOrder
    split
    · rename_i h
      exact ((ih _).cons w).trans (List.perm_cons_erase h).symm
    · exact ih due

theorem mem_inOrder {w : TickWork} {first due : List TickWork} : w ∈ inOrder first due ↔ w ∈ due :=
  (inOrder_perm first due).mem_iff

/-- The works of a tick, one by one: each is due on its own condition, over the counts that have advanced. -/
theorem mem_works (s : State) (kind : TickKind) (period : Bool) (w : TickWork) :
    w ∈ s.works kind period ↔
      match w with
      | .keyingEntry c => (s.chan c).state = .opening
      | .closingEnd c => (s.chan c).state = .closing
      | .ageTrigger c => (s.chan c).ageReached = true
      | .holdOffEnd c => (s.chan c).startDue = true
      | .offerExpiry c => kind = .marker ∧ (s.chan c).offerTimer = some 0
      | .resyncExpiry c => kind = .marker ∧ (s.chan c).resyncTimer = some 0
      | .cutoverExpiry c => kind = .marker ∧ (s.chan c).cutoverDue = true
      | .silence c => kind = .marker ∧ (s.chan c).quality.silent s.qualityParams.silenceLimit = true
      | .score c => period = true ∧ (s.chan c).state ≠ .closed
      | .presence p => s.presenceDue p = true := by
  have hp : ∀ p : Port, p ∈ ([.a, .b, .k] : List Port) := fun p => by cases p <;> decide
  cases kind <;> cases period <;> cases w <;>
    simp [State.works, State.channelWorks, State.markerWorks, State.scoreWorks, State.presenceWorks,
      List.mem_flatMap, List.mem_append, List.mem_map, hp]

/-- A list of one entry under a condition has no entry twice. -/
theorem nodup_if {α : Type} {p : Prop} [Decidable p] (x : α) : (if p then [x] else []).Nodup := by split <;> simp

/-- A tick brings each work once. -/
theorem works_nodup (s : State) (kind : TickKind) (period : Bool) : (s.works kind period).Nodup := by
  have hc : ((List.finRange 48).flatMap (fun c => s.channelWorks c)).Nodup := by
    rw [List.nodup_flatMap]
    refine ⟨fun c _ => ?_, (List.nodup_finRange 48).imp fun {a b} h => ?_⟩
    · simp only [State.channelWorks, List.nodup_append, nodup_if]
      simp
      grind
    · intro w hw hv
      simp [State.channelWorks] at hw hv
      cases w <;> simp at hw hv <;> exact h (hw.2.symm.trans hv.2)
  have hm : ((List.finRange 48).flatMap (fun c => s.markerWorks c)).Nodup := by
    rw [List.nodup_flatMap]
    refine ⟨fun c _ => ?_, (List.nodup_finRange 48).imp fun {a b} h => ?_⟩
    · simp only [State.markerWorks, List.nodup_append, nodup_if]
      simp
      grind
    · intro w hw hv
      simp [State.markerWorks] at hw hv
      cases w <;> simp at hw hv <;> exact h (hw.2.symm.trans hv.2)
  have hs : s.scoreWorks.Nodup := by
    simp only [State.scoreWorks]
    exact ((List.nodup_finRange 48).filter _).map (fun _ _ h => by injection h)
  have hp : s.presenceWorks.Nodup := by
    simp only [State.presenceWorks]
    exact (List.Nodup.filter _ (by decide)).map (fun _ _ h => by injection h)
  have dm : ∀ w ∈ (List.finRange 48).flatMap (fun c => s.channelWorks c),
      ∀ v ∈ (List.finRange 48).flatMap (fun c => s.markerWorks c), w ≠ v := by
    rintro w hw _ hv rfl
    cases w <;> simp [State.channelWorks, State.markerWorks] at hw hv
  have ds : ∀ w ∈ s.scoreWorks, w ∉ (List.finRange 48).flatMap (fun c => s.channelWorks c) ∧
      w ∉ (List.finRange 48).flatMap (fun c => s.markerWorks c) := by
    intro w hw
    cases w <;> simp [State.channelWorks, State.markerWorks, State.scoreWorks] at hw ⊢
  have dp : ∀ w ∈ s.presenceWorks, w ∉ (List.finRange 48).flatMap (fun c => s.channelWorks c) ∧
      w ∉ (List.finRange 48).flatMap (fun c => s.markerWorks c) ∧ w ∉ s.scoreWorks := by
    intro w hw
    cases w <;> simp [State.channelWorks, State.markerWorks, State.scoreWorks, State.presenceWorks] at hw ⊢
  cases kind <;> cases period <;>
    simp only [State.works, List.nodup_append, List.append_nil, hc, hm, hs, hp, Bool.false_eq_true, if_true, if_false,
      List.mem_append, true_and] <;>
    grind

@[simp] theorem carryOut_nil (s : State) : s.carryOut [] = s := rfl

@[simp] theorem carryOut_cons (s : State) (w : TickWork) (ws : List TickWork) :
    s.carryOut (w :: ws) = (s.work w).carryOut ws := rfl

/-- What every piece of work keeps, the works of a list keep. -/
theorem carryOut_keeps {P : State → Prop} (hwork : ∀ s w, P s → P (s.work w)) (s : State) (ws : List TickWork) (hs : P s) :
    P (s.carryOut ws) := by
  induction ws generalizing s with
  | nil => exact hs
  | cons w ws ih => exact ih _ (hwork s w hs)

/-- What the advance of the counts and every piece of work keep, a tick keeps. -/
theorem tick_keeps {P : State → Prop} (hwork : ∀ s w, P s → P (s.work w)) (s : State) (k : TickKind)
    (order : List TickWork) (hadvance : P (s.advance k)) : P (s.tick k order) :=
  carryOut_keeps hwork _ _ hadvance

/-- A piece of work on a channel touches nothing but that channel and the shared counters and queues. -/
theorem work_only (s : State) {w : TickWork} {c : Fin 48} (h : workChannel w = some c) : OnlyChannel c s (s.work w) := by
  cases w <;> cases h
  · exact keyingEntry_only s _
  · exact closingEnd_only s _
  · exact judgeAge_only s _
  · exact startIfDue_only s _
  · exact offerExpired_only s _
  · exact resyncExpired_only s _
  · exact cutoverExpired_only s _
  · exact judgeSilence_only s _
  · exact scoreChannel_only s _

/-- A presence work changes its port link and the log only. -/
theorem presence_work_chan (s : State) (p : Port) (c : Fin 48) : (s.work (.presence p)).chan c = s.chan c := by
  simp only [State.work, State.presenceExpired]
  split <;> simp

/-- No piece of work touches the timebase, the sequencer, the masters or the parameters. -/
theorem work_blocks (s : State) (w : TickWork) :
    (s.work w).timebase = s.timebase ∧ (s.work w).sequencer = s.sequencer ∧ (s.work w).masters = s.masters ∧
      (s.work w).receive = s.receive ∧ (s.work w).renewalParams = s.renewalParams ∧
      (s.work w).qualityParams = s.qualityParams ∧ (s.work w).presencePeriod = s.presencePeriod ∧
      (s.work w).periodTimer = s.periodTimer ∧ (s.work w).pending = s.pending ∧ (s.work w).startup = s.startup := by
  cases h : workChannel w with
  | some c =>
    have o := work_only s h
    exact ⟨o.timebase, o.sequencer, o.masters, o.receive, o.renewalParams, o.qualityParams, o.presencePeriod,
      o.periodTimer, o.pending, o.startup⟩
  | none =>
    cases w <;> cases h
    simp only [State.work, State.presenceExpired]
    split <;> simp

/-- Nor do the works of a list. -/
theorem carryOut_blocks (s : State) (ws : List TickWork) :
    (s.carryOut ws).timebase = s.timebase ∧ (s.carryOut ws).sequencer = s.sequencer ∧
      (s.carryOut ws).masters = s.masters ∧ (s.carryOut ws).receive = s.receive ∧
      (s.carryOut ws).renewalParams = s.renewalParams ∧ (s.carryOut ws).qualityParams = s.qualityParams ∧
      (s.carryOut ws).presencePeriod = s.presencePeriod ∧ (s.carryOut ws).periodTimer = s.periodTimer ∧
      (s.carryOut ws).pending = s.pending ∧ (s.carryOut ws).startup = s.startup := by
  induction ws generalizing s with
  | nil => simp
  | cons w ws ih =>
    have h1 := ih (s.work w)
    have h2 := work_blocks s w
    simp only [carryOut_cons]
    simp_all

/-- The timebase after a tick: its counter advances and nothing else of it changes (R27). -/
theorem tick_timebase (s : State) (k : TickKind) (order : List TickWork) :
    (s.tick k order).timebase = { s.timebase with tick := s.timebase.tick + 1 } :=
  (carryOut_blocks _ _).1

/-- The sequencer after a tick: its pending values are in force (R41). -/
theorem tick_sequencer (s : State) (k : TickKind) (order : List TickWork) :
    (s.tick k order).sequencer = s.sequencer.applyPending :=
  (carryOut_blocks _ _).2.1

end Sys2Proof.Machine
end

