-- ==== Sys2Proof/Tests/Slice0.lean ====
section
/-! SUPPORT. Tests: ill-formed commands refused, frames read, one step of each command on a small state with results from
the manual's worked examples and rules, and for each statement with hypotheses a state that meets them. -/

namespace Sys2Proof.Tests

open Sys2Proof Sys2Proof.Machine

/-! ## Small states -/

/-- A key entry of an epoch, with two keys that differ. -/
def keyOf (epoch : BitVec 8) : KeyEntry := { epoch := epoch, keys := { kEnc := 1, kTag := 2 } }

/-- An ACTIVE record: epoch 6, next tx sequence 1,000, the window H 1,000 with seen-set 1,000 and 998 (4, worked
example). -/
def active : Channel :=
  { Channel.opened 0 7 .a with
    state := .active
    current := some
      { key := keyOf 6, nextTx := 1000, age := 4000, window := { high := some 1000, seen := [1000, 998] } } }

/-- A KEYING record with its OFFER waiting. -/
def keying : Channel :=
  { Channel.opened 0 7 .a with
    state := .keying
    base := some (keyOf 0)
    renewal := .offered
    wanted := some .initial
    pendingEntry := some { epoch := 1, nonce := 5, keys := none }
    pendingCells := [.offer 1 5]
    renewRetries := 3 }

/-- The state after power-on and CLEAR_STARTUP, with master slot 0 loaded. -/
def base : State :=
  { State.reset with startup := false, masters := State.reset.masters.set 0 (.loaded 42 9) }

/-- That state with a record in channel 0. -/
def withRecord (r : Channel) : State := base.setChan 0 r

/-- A LOCKED trunk in slot 4, whose slot 5 has the entry given. -/
def locked (s : State) (k : SlotKind) : State :=
  { s with
    timebase := { s.timebase with trunk := .locked, acquire := 2 }
    sequencer :=
      { s.sequencer with slot := 4, map := s.sequencer.map.set 5 { inForce := k, pending := none }, kept := some k } }

/-- The load event of the slot in progress is still to be taken. -/
def loadDue (s : State) : State := { s with sequencer := { s.sequencer with loadDue := true } }

/-- A period about to end, whose two open channels have no good cell in it. -/
def twoFailing : State :=
  let failing := { active with quality := { Quality.fresh with counts := ⟨0, 0, 0, 0, 1, 0, 0, 0, 0⟩ } }
  { (withRecord failing).setChan 9 failing with periodTimer := 1023 }

/-- A step of exec ends in a next state of which f holds. -/
def holdsAfter (i : Instr) (s : State) (f : State → Bool) : Bool :=
  match exec i s with
  | .next t => f t
  | .fault _ => false
  | .refused _ => false

/-- The last response made. -/
def lastResponse (s : State) : List Byte := (s.responses.getLast?.map (·.bytes)).getD []

/-- A traffic header of channel 0 under epoch 6. -/
def arriving (kind : CellKind) (sequence : BitVec 24) (length : BitVec 8) : Cell :=
  sealCell 2 (header kind 6 0 sequence length) 0

/-! ## Well-formedness: each check refuses an ill-formed command -/

theorem test_send_of_64_bytes_ill_formed : (Instr.send .a 0 0 (List.replicate 64 1)).wellFormed = false := by decide
theorem test_beat_with_repeated_work_ill_formed : (Instr.beat [.score 3, .score 3]).wellFormed = false := by decide
theorem test_marker_with_repeated_work_ill_formed :
    (Instr.frameMarker [.closingEnd 1, .silence 1, .closingEnd 1]).wellFormed = false := by decide
theorem test_periodEnd_with_repeated_work_ill_formed : (Instr.periodEnd [.score 0, .score 0]).wellFormed = false := by
  decide
theorem test_phaseUnit_with_repeated_work_ill_formed :
    (Instr.phaseUnit [.presence .k, .presence .k]).wellFormed = false := by decide

/-! ## Frames (10.1, 10.10) -/

theorem test_frame_of_open : commandOfFrame .a [0x01, 9, 7, 17, 0, 0, 1, 2, 3, 2] =
    some (.openChannel .a 9 17 0x102 3 2) := by decide
theorem test_frame_of_setFrame : commandOfFrame .b [0x11, 1, 8, 0, 32, 0x1F, 0x40, 0, 40, 0, 3] =
    some (.setFrame .b 1 32 8000 40 3) := by decide
theorem test_frame_too_short : frameWellFormed [0x70, 1] = false := by decide
theorem test_frame_of_unknown_code : frameWellFormed [0x06, 1, 0] = false := by decide
theorem test_frame_of_wrong_length : frameWellFormed [0x02, 1, 2, 0, 0] = false := by decide
theorem test_no_table_word_spells_a_row : decodeTableWord 8 1 = none := by decide

/-! ## Cells -/

/-- R51, LENGTH: 1 to 48 for DATA, and the length R50 gives for a control kind. -/
theorem test_wrong_lengths_unsound :
    headerSound .data (header .data 9 17 5 0) = false ∧ headerSound .data (header .data 9 17 5 49) = false ∧
      headerSound .mark (header .mark 9 17 0 11) = false ∧ headerSound .mark (header .mark 9 17 0 12) = true := by decide

/-- The header of 3's worked example: 20, 17, 0, 3, 232, 40, 0, 199. -/
theorem test_header_of_worked_example : header .data 9 17 1000 40 = 0x14110003E82800C7#64 := by decide
/-- A header of sequence 16,776,960 fails SEQUENCE as a DATA header (3, worked example). -/
theorem test_hard_limit_sequence_unsound : headerSound .data (header .data 9 17 16776960 40) = false := by decide
/-- IDLE is one header of seven zero bytes and 255 (R52). -/
theorem test_idle_header : header .idle 0 0 0 0 = idleCell.header := by decide

/-! ## Command frames taken -/

theorem test_open : holdsAfter (.openChannel .a 3 5 7 0 2) base
    (fun t => decide (t.chan 5 = Channel.opened 0 7 .b) && decide (lastResponse t = [3, 1, 0, 0])) = true := by decide
theorem test_open_of_empty_master : holdsAfter (.openChannel .a 3 5 7 1 2) base
    (fun t => decide (lastResponse t = [3, 1, 13, 0]) && decide (t.chan 5 = Channel.closedValues)) = true := by decide
theorem test_close : holdsAfter (.closeChannel .a 3 0) (withRecord { active with outbound := [⟨4, 0⟩, ⟨5, 0⟩] })
    (fun t => decide ((t.chan 0).state = .closing ∧ (t.chan 0).current = none ∧ lastResponse t = [3, 2, 0, 2, 2, 0])) =
      true := by decide
/-- 1's worked example on clamping: 500 and 100 give 1,024 and 0. -/
theorem test_setChannel_clamps : holdsAfter (.setChannel .a 3 0 500 100) (withRecord keying)
    (fun t => decide ((t.chan 0).preset = 1024 ∧ (t.chan 0).ageLimit = 0 ∧
      lastResponse t = [3, 3, 1, 7, 0, 4, 0, 0, 0, 0, 0])) = true := by decide
/-- 1's worked example on clamping: 20,000,000 and 4,100,000,000 give 16,000,000 and 4,000,000,000. -/
theorem test_setChannel_clamps_high : holdsAfter (.setChannel .a 3 0 20000000 4100000000) (withRecord keying)
    (fun t => decide ((t.chan 0).preset = 16000000 ∧ (t.chan 0).ageLimit = 4000000000)) = true := by decide
theorem test_send : holdsAfter (.send .a 3 0 [1, 2]) (withRecord keying)
    (fun t => decide ((t.chan 0).outbound.map (·.length) = [2] ∧ lastResponse t = [3, 4, 0, 1, 1])) = true := by
  decide
theorem test_send_to_full_queue : holdsAfter (.send .a 3 0 [1])
    (withRecord { active with outbound := List.replicate 8 ⟨1, 0⟩ }) (fun t => decide (lastResponse t = [3, 4, 9, 0])) =
      true := by decide
theorem test_readChannel : holdsAfter (.readChannel .b 3 0) (withRecord active)
    (fun t => decide ((lastResponse t).take 14 = [3, 5, 0, 42, 3, 1, 1, 0, 1, 0, 0, 0, 7, 1])) = true := by decide
theorem test_assignSlot : holdsAfter (.assignSlot .a 3 5 1 20) base
    (fun t => decide ((t.mapEntry 5).pending = some (.data 20) ∧ lastResponse t = [3, 0x10, 0, 5, 0, 0, 1, 1, 20])) =
      true := by decide
/-- The slip limit is clamped by the clamped BEAT_LEN: 256 / 4 is 64 (R40). -/
theorem test_setFrame : holdsAfter (.setFrame .a 3 70 10 100 1) base
    (fun t => decide (t.sequencer.pendingFrame = some ⟨64, 256, 64, 2⟩ ∧
      lastResponse t = [3, 0x11, 1, 6, 64, 1, 0, 0, 64, 2])) = true := by decide
theorem test_readTrunk : holdsAfter (.readTrunk .a 3) base
    (fun t => decide (lastResponse t =
      [3, 0x12, 0, 22, 0, 0, 0, 0, 0, 0, 0, 0, 0, 32, 0x1F, 0x40, 0, 40, 3, 0, 0, 0, 0, 0, 0, 0])) = true := by decide
theorem test_readSlot : holdsAfter (.readSlot .a 3 5) (locked base (.data 9))
    (fun t => decide (lastResponse t = [3, 0x13, 0, 6, 1, 9, 0, 0, 0, 1])) = true := by decide
theorem test_take : holdsAfter (.take .a 3) { withRecord active with inboundA := [⟨0, 6, 1003, [8, 9]⟩, ⟨0, 6, 1004, [1]⟩] }
    (fun t => decide (t.inboundA.length = 1 ∧ lastResponse t = [3, 0x20, 0, 9, 0, 6, 0, 3, 235, 2, 8, 9, 1])) = true := by
  decide
theorem test_take_of_empty_queue : holdsAfter (.take .b 3) base (fun t => decide (lastResponse t = [3, 0x20, 10, 0])) =
    true := by decide
theorem test_resume : holdsAfter (.resume .a 3 0) (withRecord { active with sync := .suspended })
    (fun t => decide ((t.chan 0).sync = .sync)) = true := by decide
theorem test_setSync : holdsAfter (.setSync .b 3 63 16) base
    (fun t => decide (t.receive = ⟨64, 15⟩ ∧ lastResponse t = [3, 0x22, 1, 3, 0, 64, 15])) = true := by decide
theorem test_loadMaster_bound : holdsAfter (.loadMaster .k 3 0 1) (withRecord active)
    (fun t => decide (lastResponse t = [3, 0x30, 14, 0])) = true := by decide
/-- An erasure of slot 0 that closes one channel has detail 1 (R94). -/
theorem test_eraseMaster : holdsAfter (.eraseMaster .k 3 0) (withRecord active)
    (fun t => decide ((t.chan 0) = Channel.closedValues ∧ t.log.records.map (·.detail) = [1] ∧
      t.masters[(0 : Fin 4)] = .empty ∧ lastResponse t = [3, 0x31, 0, 2, 1, 1])) = true := by decide
theorem test_renew : holdsAfter (.renew .a 3 0) (withRecord { active with holdOff := 9 })
    (fun t => decide ((t.chan 0).renewal = .offered ∧ (t.chan 0).wanted = some .command ∧ (t.chan 0).holdOff = 9 ∧
      lastResponse t = [3, 0x40, 0, 1, 7])) = true := by decide
theorem test_setRenewal : holdsAfter (.setRenewal .a 3 2000 9 0) base
    (fun t => decide (t.renewalParams = ⟨1023, 7, 1⟩)) = true := by decide
theorem test_readQuality : holdsAfter (.readQuality .a 3 0) base
    (fun t => decide ((lastResponse t).take 9 = [3, 0x50, 0, 50, 0, 0, 0, 3, 232])) = true := by decide
/-- 8.6: a low of 1,200 with a high of 1,500 is refused RELATION. -/
theorem test_setQuality_relation : holdsAfter (.setQuality .a 3 16 1200 1500 1 16) base
    (fun t => decide (lastResponse t = [3, 0x51, 6, 0] ∧ t.qualityParams = base.qualityParams)) = true := by decide
theorem test_readFault : holdsAfter (.readFault .b 3)
    { base with log := ⟨[⟨7, .silent, some 3, some .a, 12, 2048, 2⟩], 8, 0, [], [], 0⟩ }
    (fun t => decide (t.portB.cursor = 8 ∧ lastResponse t =
      [3, 0x60, 0, 19, 0, 0, 0, 7, 14, 1, 3, 1, 0, 0, 0, 12, 8, 0, 0, 2, 0, 6, 0])) = true := by decide
theorem test_status : holdsAfter (.status .k 3) State.reset
    (fun t => decide ((lastResponse t).take 5 = [3, 0x70, 0, 39, 1])) = true := by decide
theorem test_clearStartup : holdsAfter (.clearStartup .k 3) State.reset (fun t => !t.startup) = true := by decide
theorem test_present_in_startup : holdsAfter (.present .a 3) State.reset
    (fun t => decide (lastResponse t = [3, 0x72, 2, 0])) = true := by decide
theorem test_setAttention : holdsAfter (.setAttention .k 3 6) base (fun t => decide (t.portK.mask = 6)) = true := by decide
theorem test_setPresence : holdsAfter (.setPresence .a 3 15) base (fun t => decide (t.presencePeriod = 16)) = true := by
  decide
theorem test_adopt : holdsAfter (.adopt .b 3 0) { withRecord active with inboundA := [⟨0, 6, 1, [4]⟩] }
    (fun t => decide ((t.chan 0).serving = some .b ∧ t.inboundA = [] ∧ t.inboundB.length = 1 ∧
      lastResponse t = [3, 0x75, 0, 3, 1, 1, 0])) = true := by decide
theorem test_reset_from_service_port : holdsAfter (.reset .a 3) base
    (fun t => decide (lastResponse t = [3, 0x7F, 3, 0] ∧ t.halted = false)) = true := by decide

/-! ## Resets, arrivals of frames, the timebase -/

theorem test_warmReset_keeps_masters : holdsAfter .warmReset { withRecord active with halted := true }
    (fun t => decide (t.masters = base.masters ∧ t.chan 0 = Channel.closedValues ∧ t.startup = true)) = true := by decide
theorem test_resetLine_holds : holdsAfter (.frameArrival .a [0x70, 1, 0]) { base with resetLine := true }
    (fun t => decide (t.portA.queue = [])) = true := by decide
theorem test_powerOn_empties_masters : holdsAfter .powerOn base (fun t => decide (t.masters = State.reset.masters)) =
    true := by decide
theorem test_fifth_frame_is_answered_port_full : holdsAfter (.frameArrival .a [0x70, 1, 0])
    { base with portA := { base.portA with queue := List.replicate 4 [0x70, 1, 0] } }
    (fun t => decide (lastResponse t = [1, 0x70, 15, 0] ∧ t.portA.present = true)) = true := by decide
/-- 2's worked example: the wrap at 8,000 phase units makes the first beat tick. -/
theorem test_first_wrap : holdsAfter (.phaseUnit []) { base with timebase := { base.timebase with phase := 7999 } }
    (fun t => decide (t.timebase.phase = 0 ∧ t.timebase.beats = 1 ∧ t.timebase.tick = 1)) = true := by decide
/-- 2's worked example: the third wrap after the last marker loses the trunk, with detail 3 and a beat tick. -/
theorem test_third_wrap_loses_trunk : holdsAfter (.beat [])
    { locked base .unused with timebase := { trunk := .locked, phase := 7999, beats := 2, acquire := 2, deviation := 0, tick := 4 } }
    (fun t => decide (t.timebase.trunk = .lost ∧ t.timebase.tick = 5 ∧ t.log.records.map (·.detail) = [3])) = true := by
  decide
/-- 2's worked example: a marker at phase 7,988 after 32 slots locks with deviation 12. -/
theorem test_second_marker_locks : holdsAfter (.frameMarker [])
    { base with
      timebase := { trunk := .acquiring, phase := 7988, beats := 0, acquire := 1, deviation := 0, tick := 2 }
      sequencer := { base.sequencer with slot := 31 } }
    (fun t => decide (t.timebase = ⟨.locked, 0, 0, 2, 12, 3⟩ ∧
      t.log.records.map (fun r => (r.kind, r.detail)) = [(.trunkLocked, 32)])) = true := by decide +kernel
/-- 2's worked example: a marker at phase 60 raises TRUNK_SLIP with detail 60. -/
theorem test_slip : holdsAfter (.frameMarker [])
    { locked base .unused with
      timebase := { trunk := .locked, phase := 60, beats := 1, acquire := 2, deviation := 0, tick := 4 }
      sequencer := { base.sequencer with slot := 31 } }
    (fun t => decide (t.log.records.map (fun r => (r.kind, r.detail)) = [(.trunkSlip, 60)])) = true := by decide

/-! ## Slots -/

/-- R20, R21: sequence 16,776,959 makes the channel HELD and raises HARD_LIMIT with the current epoch. -/
theorem test_last_cell_holds_the_channel : holdsAfter (.slotBoundary (.boundary .now))
    (locked (withRecord { active with
      current := some { key := keyOf 9, nextTx := 16776959, age := 0, window := Window.empty } }) (.data 0))
    (fun t => decide ((t.chan 0).held = true ∧ t.log.records.map (fun r => (r.kind, r.detail)) = [(.hardLimit, 9)])) =
      true := by decide
/-- 7's worked example: with 7 served last, the scan passes 3 by and chooses 9. -/
theorem test_scan_begins_after_last_served :
    ({ (base.setChan 3 { active with pendingCells := [.mark 1] }).setChan 9 { active with pendingCells := [.resync 2] } with
      lastChannel := 7 }).chosenChannel = some 9 := by decide
/-- R129: a RENEW taken before the slot's load event has its OFFER sent in that slot, tagged and with its timer started. -/
theorem test_renew_before_the_load_event : holdsAfter (.renew .a 3 0) (loadDue (locked (withRecord active) .control))
    (fun s => holdsAfter (.slotBoundary .load) s (fun t => decide (t.lastChannel = 0 ∧ (t.chan 0).pendingCells = [] ∧
      (t.chan 0).offerTimer = some 64 ∧ (t.lineOut.bind cellKindOf) = some .offer ∧ t.sequencer.loadDue = false))) =
      true := by decide
/-- R36: a load event left for later leaves the line empty until it is taken, at the latest with the next boundary. -/
theorem test_load_event_before_the_next_boundary :
    holdsAfter (.slotBoundary (.boundary .later)) (locked (withRecord active) (.data 0))
      (fun s => s.lineOut.isNone && holdsAfter (.slotBoundary (.boundary .now)) s
        (fun t => decide ((t.chan 0).current.map (·.nextTx) = some 1001 ∧ t.sequencer.slot = 6))) = true := by decide
theorem test_gap_counts_x : holdsAfter (.dataSlotArrival none) (locked (withRecord active) (.data 0))
    (fun t => decide ((t.chan 0).quality.counts.x = 1)) = true := by decide
/-- 4's worked example: 6,003 against H 1,003 is a jump, and 939 is stale. -/
theorem test_jump_and_stale :
    (Window.preCheck ⟨some 1003, [1003, 1000, 999, 998]⟩ 4096 6003,
      Window.preCheck ⟨some 1003, [1003, 1000, 999, 998]⟩ 4096 939) = (.jump, .stale) := by decide
/-- 4's worked example: H 1,000 with 1,000 and 998 seen takes 1,063 as H, and 998 falls out. -/
theorem test_window_ahead_by_63 : Window.accept ⟨some 1000, [1000, 998]⟩ 1063 = ⟨some 1063, [1063, 1000]⟩ := by decide
theorem test_duplicate_counts_r : holdsAfter (.dataSlotArrival (some (arriving .data 998 10)))
    (locked (withRecord active) (.data 0)) (fun t => decide ((t.chan 0).quality.counts.r = 1)) = true := by decide
/-- 7's worked example: an inward SWITCH is a header error of the channel it names. -/
theorem test_inward_switch_counts_e : holdsAfter (.controlSlotArrival (some (controlCell .switch (keyOf 6) 0 0)))
    (locked (withRecord active) .control) (fun t => decide ((t.chan 0).quality.counts.e = 1 ∧ t.stray = 0)) = true := by
  decide
theorem test_control_for_closed_channel_is_stray :
    holdsAfter (.controlSlotArrival (some (controlCell .request (keyOf 6) 30 0))) (locked (withRecord active) .control)
      (fun t => decide (t.stray = 1)) = true := by decide

/-! ## Events of the part's own -/

theorem test_trunkLoss : holdsAfter .trunkLoss
    { locked base .unused with timebase := { trunk := .locked, phase := 0, beats := 3, acquire := 2, deviation := 0, tick := 4 } }
    (fun t => decide (t.timebase.trunk = .lost ∧ t.timebase.tick = 4)) = true := by decide
theorem test_presetTrigger : holdsAfter (.presetTrigger 0) (withRecord { active with preset := 999 })
    (fun t => decide ((t.chan 0).wanted = some .preset ∧ (t.chan 0).renewal = .offered)) = true := by decide
theorem test_lossOfSync : holdsAfter (.lossOfSync 0) (withRecord { active with syncLoss := 4 })
    (fun t => decide ((t.chan 0).sync = .hunt ∧ (t.chan 0).resyncRetries = 3 ∧ t.log.records.map (·.detail) = [6])) =
      true := by decide
theorem test_tagStorm : holdsAfter (.tagStorm 0)
    (withRecord { active with quality := { Quality.fresh with counts := { Counts.zero with t := 32 } } })
    (fun t => decide ((t.chan 0).sync = .quarantine ∧ (t.chan 0).wanted = some .storm)) = true := by decide
theorem test_hardLimit_alone : holdsAfter (.hardLimit 0) (withRecord active) (fun t => decide (t = withRecord active)) =
    true := by decide
theorem test_keyingEntry : holdsAfter (.keyingEntry 0) (withRecord (Channel.opened 0 7 .a))
    (fun t => decide ((t.chan 0).state = .keying ∧ (t.chan 0).newEpoch = 1 ∧ (t.chan 0).quality.silenceRunning = true)) =
      true := by decide
theorem test_closingEnd : holdsAfter (.closingEnd 0) (withRecord active.closing)
    (fun t => decide (t.chan 0 = Channel.closedValues)) = true := by decide
theorem test_ageTrigger : holdsAfter (.ageTrigger 0) (withRecord { active with ageLimit := 4000 })
    (fun t => decide ((t.chan 0).wanted = some .age)) = true := by decide
theorem test_holdOffEnd : holdsAfter (.holdOffEnd 0) (withRecord { active with holdOff := 1, wanted := some .preset })
    (fun t => decide ((t.chan 0).renewal = .offered ∧ (t.chan 0).holdOff = 0)) = true := by decide
/-- 6's worked example on failure: no retries left gives RENEW_FAIL, hold-off 512 and the standing cause. -/
theorem test_offerTimerExpiry : holdsAfter (.offerTimerExpiry 0)
    (locked (withRecord { keying with offerTimer := some 1, pendingCells := [], renewRetries := 0 }) .unused)
    (fun t => decide ((t.chan 0).renewal = .idle ∧ (t.chan 0).holdOff = 512 ∧ (t.chan 0).wanted = some .initial)) = true := by
  decide
theorem test_resyncTimerExpiry : holdsAfter (.resyncTimerExpiry 0)
    (locked (withRecord { active with sync := .hunt, challenge := some 8, resyncTimer := some 1, resyncRetries := 2 }) .unused)
    (fun t => decide ((t.chan 0).pendingCells = [.resync 8] ∧ (t.chan 0).resyncRetries = 1)) = true := by decide
theorem test_cutoverTimerExpiry : holdsAfter (.cutoverTimerExpiry 0)
    (locked (withRecord { active with renewal := .cutover, previous := some ⟨keyOf 5, Window.empty, 1⟩ }) .unused)
    (fun t => decide ((t.chan 0).previous = none ∧ (t.chan 0).renewal = .idle)) = true := by decide
theorem test_silenceLimit : holdsAfter (.silenceLimit 0)
    (locked (withRecord { active with quality := { Quality.fresh with silenceRunning := true, silence := 2047 } }) .unused)
    (fun t => decide (t.chan 0 = Channel.closedValues ∧ t.log.records.map (·.detail) = [2048])) = true := by decide
/-- 8's worked example, period 2: G 300 of 600 with Qs 978 gives Qs 859 and QUALITY_LOW. -/
theorem test_periodEnd : holdsAfter (.periodEnd [])
    { withRecord { active with
        quality := { Quality.fresh with counts := ⟨300, 150, 0, 100, 50, 0, 0, 0, 0⟩, smoothed := 978 } } with
      periodTimer := 1023 }
    (fun t => decide ((t.chan 0).quality.smoothed = 859 ∧ (t.chan 0).quality.low = true ∧ (t.chan 0).quality.lastScore = some 500 ∧
      t.log.records.map (fun r => (r.kind, r.detail)) = [(.qualityLow, 859)])) = true := by decide
/-- R141: the channels are scored in the order the command names, and each low flag that changes raises its fault. -/
theorem test_periodEnd_in_the_order_named : holdsAfter (.periodEnd [.score 9, .score 0]) twoFailing
    (fun t => decide (t.log.records.map (fun r => (r.kind, r.channel)) =
      [(.qualityLow, some 9), (.qualityLow, some 0)])) = true := by decide +kernel
theorem test_presenceExpiry : holdsAfter (.presenceExpiry .b)
    { base with portB := { base.portB with present := true, timer := 511 } }
    (fun t => decide (t.portB.present = false ∧ t.log.records.map (fun r => (r.kind, r.detail)) = [(.portAbsent, 512)])) =
      true := by decide

/-! ## Witnesses: for each statement with hypotheses, states and operands that meet them, clause by clause

A clause whose range has a boundary is met at the boundary. -/

/-- Every queue of a `withRecord` state is empty, so a frame of any port is taken as it comes. -/
theorem withRecord_takes (r : Channel) (p : Port) (frame : List Byte) : (withRecord r).canTake p frame = true := rfl

/-- A frame waits on port p alone, and `last` is the last port served. -/
def queued (last p : Port) : State :=
  { base.setLink p { base.link p with queue := [[0x70, 1, 0], [0x12, 2, 0]] } with lastPort := last }

theorem witness_StepRunsFrontCommand :
    ({ base with pending := [.trunkLoss, .resetLine] } : State).pending = .trunkLoss :: [.resetLine] := rfl

theorem witness_StepTakesNextFrame :
    (∀ last p : Port,
      (queued last p).pending = [] ∧ (queued last p).resetLine = false ∧ (queued last p).halted = false ∧
        (match (queued last p).lastPort with
          | .a => p = .b ∨ (p = .k ∧ (queued last p).portB.queue = []) ∨
              (p = .a ∧ (queued last p).portB.queue = [] ∧ (queued last p).portK.queue = [])
          | .b => p = .k ∨ (p = .a ∧ (queued last p).portK.queue = []) ∨
              (p = .b ∧ (queued last p).portK.queue = [] ∧ (queued last p).portA.queue = [])
          | .k => p = .a ∨ (p = .b ∧ (queued last p).portA.queue = []) ∨
              (p = .k ∧ (queued last p).portA.queue = [] ∧ (queued last p).portB.queue = [])) ∧
        ((queued last p).link p).queue = [0x70, 1, 0] :: [[0x12, 2, 0]] ∧
        commandOfFrame p [0x70, 1, 0] = some (.status p 1)) ∧
      base.pending = [] ∧ base.portA.queue = [] ∧ base.portB.queue = [] ∧ base.portK.queue = [] := by
  refine ⟨fun last p => ?_, rfl, rfl, rfl, rfl⟩
  cases last <;> cases p <;> refine ⟨rfl, rfl, rfl, ?_, rfl, rfl⟩ <;> dsimp only [queued] <;> decide

/-- A TRUNK_LOST of tick 5 that the log has not taken, and a READ_FAULT of port B in its queue. -/
def awaiting (turns : List (List Nat)) : State :=
  { base with
    log := { base.log with waiting := [⟨0, 5, ⟨.trunkLost, none, none, 3⟩⟩], turns := turns, event := 1 }
    portB := { base.portB with present := true, queue := [[0x60, 1, 0]] } }

theorem witness_StepTakesNextFrame_waiting :
    (awaiting []).log.waiting ≠ [] ∧ (awaiting []).log.turns.head? ≠ some [] ∧ (awaiting [[0]]).log.turns.head? ≠ some [] ∧
      (awaiting [[]]).log.turns.head? = some [] ∧ (awaiting [[]]).pending = [] ∧ (awaiting [[]]).resetLine = false ∧
      (awaiting [[]]).halted = false ∧ (awaiting [[]]).lastPort = .a ∧
      commandOfFrame .b [0x60, 1, 0] = some (.readFault .b 1) ∧ base.log.waiting = [] := by decide

/-- R161: a READ_FAULT and a fault, either first: the fault becomes record 1 and the frame stays queued, or the READ_FAULT is
answered EMPTY and the fault still waits. -/
theorem test_readFaultAndFault :
    (match step (awaiting []) with
      | .next t => decide (t.log.records.map (fun r => (r.number, r.kind, r.stamp)) = [(1, .trunkLost, 5)] ∧
          t.log.waiting = [] ∧ t.portB.queue = [[0x60, 1, 0]])
      | _ => false) = true ∧
    (match step (awaiting [[]]) with
      | .next t => decide (t.log.records = [] ∧ t.log.waiting.length = 1 ∧ t.log.turns = [] ∧ t.portB.queue = [] ∧
          t.portB.cursor = 1)
      | _ => false) = true := by decide

theorem witness_CommandFramesReadBack :
    (Instr.send .b 255 47 (List.replicate 63 255)).wellFormed = true ∧
      frameOf (.send .b 255 47 (List.replicate 63 255)) = some (.b, 0x04 :: 255 :: 64 :: 47 :: List.replicate 63 255) := by
  decide

theorem witness_WellFormedFramesAreCommands :
    frameWellFormed (0x04 :: 255 :: 64 :: 47 :: List.replicate 63 255) = true ∧ frameWellFormed [0x7F, 0, 0] = true := by
  decide

theorem witness_CommandsAreJudgedInOrder :
    (frameOf (.openChannel .k 3 5 7 0 2) = some (.k, commandFrame 0x01 3 [5, 0, 0, 0, 7, 0, 2]) ∧
      base.canTake .k (commandFrame 0x01 3 [5, 0, 0, 0, 7, 0, 2]) = true ∧
      (0x01 : Byte) ∉ ([0x30, 0x31, 0x60, 0x70, 0x71, 0x72, 0x73, 0x7F] : List Byte)) ∧
    (frameOf (.reset .a 3) = some (.a, commandFrame 0x7F 3 []) ∧ base.canTake .a (commandFrame 0x7F 3 []) = true ∧
      ¬ (0x7F : Byte) ∉ ([0x30, 0x31, 0x7F] : List Byte)) ∧
    (frameOf (.present .k 3) = some (.k, commandFrame 0x72 3 []) ∧ State.reset.canTake .k (commandFrame 0x72 3 []) = true ∧
      State.reset.startup = true ∧ (0x72 : Byte) ∈ ([0x30, 0x31, 0x60, 0x70, 0x71, 0x72, 0x73, 0x7F] : List Byte) ∧
      (0x72 : Byte) ∉ ([0x70, 0x71, 0x7F] : List Byte)) := by decide

theorem witness_ChannelCommandsAreChecked :
    (channelCommandOf (.closeChannel .a 3 48) = some (Service.a.port, 3, 0x02, 48) ∧
      frameOf (.closeChannel .a 3 48) = some (Service.a.port, commandFrame 0x02 3 [48]) ∧
      base.canTake .a (commandFrame 0x02 3 [48]) = true ∧ base.startup = false ∧ 48 ≤ (48 : Byte).toNat) ∧
    (channelCommandOf (.send .b 3 47 [1]) = some (Service.b.port, 3, 0x04, 47) ∧
      frameOf (.send .b 3 47 [1]) = some (Service.b.port, commandFrame 0x04 3 [47, 1]) ∧
      base.canTake .b (commandFrame 0x04 3 [47, 1]) = true ∧ (47 : Byte).toNat = (47 : Fin 48).val ∧
      (base.chan 47).state = .closed) ∧
    (let s := { withRecord active with portA := { base.portA with present := true } };
      channelCommandOf (.renew .b 3 0) = some (Service.b.port, 3, 0x40, 0) ∧
      frameOf (.renew .b 3 0) = some (Service.b.port, commandFrame 0x40 3 [0]) ∧
      s.canTake .b (commandFrame 0x40 3 [0]) = true ∧ s.startup = false ∧ (s.chan 0).state ≠ .closed ∧
      (s.chan 0).serving = some .a ∧ Service.a ≠ .b ∧ (s.link Service.a.port).present = true) := by decide

/-- The port that serves channel 0 may command it, and so may the other one while that port is ABSENT. -/
theorem withRecord_mayCommand (r : Channel) (h : r.serving = some .a) :
    (withRecord r).mayCommand .a 0 ∧ (withRecord r).mayCommand .b 0 := by
  have hr : ((withRecord r).chan 0).serving = some .a := by simp [withRecord, h]
  exact ⟨⟨.a, hr, .inl rfl⟩, ⟨.a, hr, .inr rfl⟩⟩

theorem witness_ChannelCommandsAreChecked_own_checks :
    (base.startup = false ∧ base.canTake .a (commandFrame 0x04 3 [0]) = true ∧ ([] : List Byte).length = 0 ∧
      base.canTake .a (commandFrame 0x04 3 (0 :: List.replicate 49 1)) = true ∧
      48 < (List.replicate 49 (1 : Byte)).length) ∧
    ((withRecord active.closing).mayCommand .a 0 ∧ ((withRecord active.closing).chan 0).state = .closing ∧
      (withRecord active.closing).canTake .a (commandFrame 0x02 3 [0]) = true ∧ 1 ≤ ([9] : List Byte).length) ∧
    (let s := withRecord { active with outbound := List.replicate 8 ⟨48, 0⟩ };
      s.mayCommand .b 0 ∧ (s.chan 0).state ≠ .closing ∧ (s.chan 0).state ≠ .closed ∧ 8 ≤ (s.chan 0).outbound.length ∧
        (s.chan 0).sync ≠ .suspended ∧ (List.replicate 48 (1 : Byte)).length ≤ 48) ∧
    (let s := withRecord (Channel.opened 0 7 .a);
      s.mayCommand .a 0 ∧ ((s.chan 0).state = .opening ∨ (s.chan 0).state = .closing)) ∧
    (let s := withRecord keying;
      s.mayCommand .a 0 ∧ ((s.chan 0).state = .keying ∨ (s.chan 0).state = .active) ∧ (s.chan 0).renewal ≠ .idle) := by
  refine ⟨by decide, ⟨(withRecord_mayCommand _ rfl).1, by decide⟩, ⟨(withRecord_mayCommand _ rfl).2, by decide⟩,
    ⟨(withRecord_mayCommand _ rfl).1, by decide⟩, ⟨(withRecord_mayCommand _ rfl).1, by decide⟩⟩

theorem witness_OpenFillsTheRecordOrIsRefused :
    ((47 : Byte).toNat = (47 : Fin 48).val ∧ (0 : Byte).toNat = (0 : Fin 4).val ∧ (2 : Byte) = portByte Service.b.port ∧
      (1 : BitVec 32) ≠ 0 ∧ base.canTake .a (commandFrame 0x01 3 (47 :: bigEndian 4 1 ++ [0, 2])) = true ∧
      base.startup = false ∧ (base.chan 47).state = .closed ∧ base.masters[(0 : Fin 4)] = .loaded 42 9) ∧
    (48 ≤ (48 : Byte).toNat ∧ 4 ≤ (4 : Byte).toNat ∧ ((0 : Byte) ≠ 1 ∧ (0 : Byte) ≠ 2) ∧
      ((3 : Byte) ≠ 1 ∧ (3 : Byte) ≠ 2)) ∧
    ((withRecord active).chan 0).state ≠ .closed ∧ base.masters[(3 : Fin 4)] = .empty := by decide

theorem witness_CloseTearsDown :
    (0 : Byte).toNat = (0 : Fin 48).val ∧ (withRecord active).canTake .b (commandFrame 0x02 3 [0]) = true ∧
      (withRecord active).startup = false ∧ ((withRecord active).chan 0).state = .active ∧
      (withRecord active).mayCommand .b 0 := by
  refine ⟨rfl, rfl, rfl, rfl, (withRecord_mayCommand _ rfl).2⟩

theorem witness_SetChannelWritesClampedParameters :
    (0 : Byte).toNat = (0 : Fin 48).val ∧
      (withRecord active).canTake .a (commandFrame 0x03 3 (0 :: bigEndian 4 1023 ++ bigEndian 4 128)) = true ∧
      (withRecord active).startup = false ∧ ((withRecord active).chan 0).state ≠ .closed ∧
      (withRecord active).mayCommand .a 0 := by
  refine ⟨rfl, rfl, rfl, by decide, (withRecord_mayCommand _ rfl).1⟩

theorem witness_SendQueuesOneCell :
    let s := withRecord { active with outbound := List.replicate 7 ⟨1, 0⟩ }
    (0 : Byte).toNat = (0 : Fin 48).val ∧ s.canTake .a (commandFrame 0x04 3 (0 :: List.replicate 48 9)) = true ∧
      s.startup = false ∧ 1 ≤ (List.replicate 48 (9 : Byte)).length ∧ (List.replicate 48 (9 : Byte)).length ≤ 48 ∧
      (s.chan 0).state = .active ∧ s.mayCommand .a 0 ∧ (s.chan 0).outbound.length < 8 := by
  refine ⟨rfl, rfl, rfl, by decide, by decide, rfl, (withRecord_mayCommand _ rfl).1, by decide⟩

theorem witness_ResumeReturnsToSync :
    let s := withRecord { active with sync := .suspended }
    (0 : Byte).toNat = (0 : Fin 48).val ∧ s.canTake .b (commandFrame 0x21 3 [0]) = true ∧ s.startup = false ∧
      (s.chan 0).state ≠ .closed ∧ s.mayCommand .b 0 ∧ (s.chan 0).sync = .suspended := by
  refine ⟨rfl, rfl, rfl, by decide, (withRecord_mayCommand _ rfl).2, rfl⟩

theorem witness_RenewStartsARenewal :
    let s := withRecord { active with current := some { key := keyOf 255, nextTx := 0, age := 0, window := Window.empty } }
    (0 : Byte).toNat = (0 : Fin 48).val ∧ s.canTake .a (commandFrame 0x40 3 [0]) = true ∧ s.startup = false ∧
      (s.chan 0).state = .active ∧ s.mayCommand .a 0 ∧ (s.chan 0).renewal = .idle := by
  refine ⟨rfl, rfl, rfl, rfl, (withRecord_mayCommand _ rfl).1, rfl⟩

theorem witness_ChannelReadsChangeNothing :
    base.startup = false ∧ base.canTake .a (commandFrame 0x05 3 [47]) = true ∧ 48 ≤ (48 : Byte).toNat ∧
      (47 : Byte).toNat = (47 : Fin 48).val ∧ base.canTake .b (commandFrame 0x50 3 [47]) = true := by decide

theorem witness_ParameterCommandsClampOrRefuse :
    base.startup = false ∧ base.canTake .a (commandFrame 0x22 3 (bigEndian 2 64 ++ [15])) = true ∧
      base.canTake .a (commandFrame 0x41 3 (bigEndian 2 1023 ++ [7, 1])) = true ∧
      base.canTake .b (commandFrame 0x74 3 (bigEndian 2 16)) = true ∧
      base.canTake .b (commandFrame 0x51 3
        (bigEndian 2 16 ++ bigEndian 2 999 ++ bigEndian 2 1000 ++ 1 :: bigEndian 2 16)) = true ∧
      min 1000 (999 : BitVec 16).toNat < min 1000 (1000 : BitVec 16).toNat ∧
      min 1000 (1001 : BitVec 16).toNat ≤ min 1000 (1000 : BitVec 16).toNat := by decide

theorem witness_SlotCommandsWritePendingValues :
    base.startup = false ∧
      base.canTake .a (commandFrame 0x11 3 (bigEndian 2 64 ++ bigEndian 2 256 ++ bigEndian 2 64 ++ bigEndian 2 15)) = true ∧
      base.canTake .b (commandFrame 0x10 3 [63, 1, 47]) = true ∧ (63 : Byte).toNat = (63 : Fin 64).val ∧
      (47 : Byte).toNat = (47 : Fin 48).val ∧ 64 ≤ (64 : Byte).toNat ∧ 3 ≤ (3 : Byte).toNat ∧ 48 ≤ (48 : Byte).toNat := by
  decide

theorem witness_TrunkReadsChangeNothing :
    base.startup = false ∧ base.canTake .a (commandFrame 0x12 3 []) = true ∧
      base.canTake .b (commandFrame 0x13 3 [63]) = true ∧ (63 : Byte).toNat = (63 : Fin 64).val ∧
      64 ≤ (64 : Byte).toNat := by decide

theorem witness_StatusReturnsThePartWideState : State.reset.canTake .k (commandFrame 0x70 3 []) = true := by decide

theorem witness_PortCommandsComplete :
    State.reset.canTake .b (commandFrame 0x71 3 []) = true ∧ base.startup = false ∧
      base.canTake .k (commandFrame 0x72 3 []) = true ∧ base.canTake .k (commandFrame 0x73 3 [7]) = true ∧
      (7 : Byte) &&& 0xF8 = 0 ∧ (8 : Byte) &&& 0xF8 ≠ 0 := by decide

theorem witness_LoadMasterLoadsTheSlot :
    let s := withRecord active
    s.startup = false ∧ s.canTake .k (commandFrame 0x30 3 (3 :: bigEndian 16 1)) = true ∧ 4 ≤ (4 : Byte).toNat ∧
      (3 : Byte).toNat = (3 : Fin 4).val ∧ s.masters[(3 : Fin 4)] = .empty ∧
      ((s.chan 0).state ≠ .closed ∧ (s.chan 0).master = some 0) ∧ s.masters[(0 : Fin 4)] ≠ .empty ∧
      (base.chan 0).state = .closed ∧ base.masters[(0 : Fin 4)] ≠ .empty := by decide

theorem witness_EraseMasterClosesBoundChannels :
    let s := withRecord active
    s.startup = false ∧ s.canTake .k (commandFrame 0x31 3 [3]) = true ∧ 4 ≤ (4 : Byte).toNat ∧
      (3 : Byte).toNat = (3 : Fin 4).val ∧ s.masters[(3 : Fin 4)] = .empty ∧
      s.canTake .k (commandFrame 0x31 3 [0]) = true ∧ s.masters[(0 : Fin 4)] ≠ .empty ∧
      ((s.chan 0).state ≠ .closed ∧ (s.chan 0).master = some 0) := by decide

theorem witness_TakeRemovesTheOldestCell :
    let s := { withRecord active with inboundB := [⟨0, 6, 1003, [8, 9]⟩] }
    s.startup = false ∧ s.canTake .b (commandFrame 0x20 3 []) = true ∧ s.inbound .b = ⟨0, 6, 1003, [8, 9]⟩ :: [] ∧
      s.inbound .a = [] ∧ s.canTake .a (commandFrame 0x20 3 []) = true ∧ s.canTake .k (commandFrame 0x20 3 []) = true := by
  decide

theorem witness_AdoptTakesOneChannel :
    let s := withRecord active
    let t := { s with portA := { s.portA with present := true } }
    s.startup = false ∧ s.canTake .b (commandFrame 0x75 3 [0]) = true ∧
      (48 ≤ (48 : Byte).toNat ∧ (254 : Byte).toNat ≤ 254) ∧ (47 : Byte).toNat = (47 : Fin 48).val ∧
      (s.chan 47).state = .closed ∧ ((s.chan 0).state ≠ .closed ∧ (s.chan 0).serving = some .a) ∧
      (s.chan 0).serving ≠ some .b ∧ (s.link Service.b.other.port).present = false ∧
      t.startup = false ∧ t.canTake .b (commandFrame 0x75 3 [0]) = true ∧ (t.chan 0).serving ≠ some .b ∧
      (t.link Service.b.other.port).present = true := by decide

theorem witness_AdoptTakesEveryChannel :
    let s := withRecord active
    let t := { s with portA := { s.portA with present := true } }
    s.startup = false ∧ s.canTake .b (commandFrame 0x75 3 [255]) = true ∧
      (s.link Service.b.other.port).present = false ∧ t.startup = false ∧
      t.canTake .b (commandFrame 0x75 3 [255]) = true ∧ (t.link Service.b.other.port).present = true := by decide

/-- A fault record of channel 3 with number n. -/
def recordOf (n : BitVec 32) : FaultRecord := ⟨n, .silent, some 3, some .a, 12, 2048, 2⟩

/-- A log of records 1 to n, with the lost counter at l. -/
def logOf (n l : Nat) : FaultLog :=
  { records := (List.range n).map (fun i => recordOf (1 + BitVec.ofNat 32 i)), next := 1 + BitVec.ofNat 32 n, lost := l,
    waiting := [], turns := [], event := 0 }

theorem witness_ReadFaultAdvancesTheCursor :
    let s := { base with log := ⟨[recordOf 7, recordOf 8, recordOf 9], 10, 0, [], [], 0⟩, portB := { base.portB with cursor := 8 } }
    s.startup = false ∧ s.canTake .b (commandFrame 0x60 3 []) = true ∧
      s.log.records = [recordOf 7] ++ recordOf 8 :: [recordOf 9] ∧
      ((recordOf 7).number.toNat + 4294967296 - (s.link .b).cursor.toNat) % 4294967296 = 4294967295 ∧
      ((recordOf 8).number.toNat + 4294967296 - (s.link .b).cursor.toNat) % 4294967296 < 2147483648 ∧
      base.startup = false ∧ base.canTake .k (commandFrame 0x60 3 []) = true ∧ base.log.records = [] := by decide

theorem witness_RepeatsFoldIntoTheNewestRecord :
    State.reset.log.records = [] ∧
    (let s := { base with log := logOf 2 0, portB := { base.portB with present := true } };
      s.log.records = [recordOf 1] ++ [recordOf 2] ∧ s.log.lost = 0 ∧ (recordOf 2).kind = .silent ∧
        (recordOf 2).kind ≠ .lost ∧ (recordOf 2).channel = some 3 ∧ (recordOf 2).port = some .a ∧
        (s.link .b).present = true ∧ unread (recordOf 2).number (s.link .b).cursor = true ∧
        (s.link .a).present = false ∧ (s.link .k).present = false) := by decide

/-- A fault that no record of `logOf` is like. -/
def otherFault : FaultReport := ⟨.qualityLow, some 4, some .b, 800⟩

theorem witness_FaultsAreAppendedOrLost :
    ((logOf 63 0).lost = 0 ∧ (logOf 63 0).folds [] otherFault = false ∧ (logOf 63 0).records.length < 64) ∧
    ((logOf 64 0).lost = 0 ∧ (logOf 64 0).folds [1] otherFault = false ∧
      (logOf 64 0).records = recordOf 1 :: (logOf 64 0).records.tail ∧ (logOf 64 0).records.tail.length = 63 ∧
      unread (recordOf 1).number 1 = true ∧ unread (recordOf 1).number 2 = false) := by decide

theorem witness_FaultsAreAppendedOrLost_while_lost :
    ((logOf 62 5).lost ≠ 0 ∧ (logOf 62 5).records.length < 63) ∧
    ((logOf 64 5).records = recordOf 1 :: recordOf 2 :: (logOf 64 5).records.tail.tail ∧
      (logOf 64 5).records.tail.tail.length = 62 ∧ unread (recordOf 1).number 1 = true ∧
      unread (recordOf 1).number 2 = false ∧ unread (recordOf 2).number 2 = true ∧
      unread (recordOf 1).number 3 = false ∧ unread (recordOf 2).number 3 = false) ∧
    ((logOf 63 5).records = recordOf 1 :: (logOf 63 5).records.tail ∧ (logOf 63 5).records.tail.length = 62) := by decide

theorem witness_FrameArrivalIsJudgedAtOnce :
    base.resetLine = false ∧ frameWellFormed [0x01] = false ∧ frameWellFormed [0x06, 1, 0] = false ∧
      frameWellFormed (0x04 :: 9 :: 65 :: List.replicate 65 0) = false ∧
      0x04 :: 9 :: 64 :: List.replicate 64 0 = (0x04 : Byte) :: 9 :: (64 :: List.replicate 64 0) ∧
      frameWellFormed (0x04 :: 9 :: 64 :: List.replicate 64 0) = true := by decide

theorem witness_ResetsGiveTheirValues :
    base.resetLine = false ∧ base.canTake .k (commandFrame 0x7F 3 []) = true ∧
      frameOf (.status .a 1) = some (.a, [0x70, 1, 0]) ∧ ({ base with halted := true } : State).halted = true ∧
      ({ base with resetLine := true } : State).resetLine = true ∧ Instr.slotBoundary .load ≠ .resetLine ∧
      Instr.slotBoundary .load ≠ .resetLineRelease ∧ Instr.slotBoundary .load ≠ .powerOn := by decide

theorem witness_BeatsMakeTicksAndLoseTheTrunk :
    (let s := { base with timebase := { trunk := .acquiring, phase := 7998, beats := 2, acquire := 1, deviation := 0, tick := 0 } };
      s.resetLine = false ∧ s.timebase.phase + 1 < s.sequencer.frame.beatLen ∧ s.timebase.trunk = .acquiring ∧
        s.timebase.beats < s.sequencer.frame.loss) ∧
    (let s := { base with timebase := { trunk := .locked, phase := 7999, beats := 1, acquire := 2, deviation := 0, tick := 0 } };
      s.resetLine = false ∧ s.sequencer.frame.beatLen ≤ s.timebase.phase + 1 ∧ s.timebase.trunk = .locked ∧
        min 15 (s.timebase.beats + 1) < s.sequencer.frame.loss) ∧
    (let s := { base with timebase := { trunk := .locked, phase := 0, beats := 2, acquire := 2, deviation := 0, tick := 0 } };
      s.timebase.trunk = .locked ∧ s.sequencer.frame.loss ≤ min 15 (s.timebase.beats + 1)) ∧
    (let s := { base with timebase := { trunk := .locked, phase := 0, beats := 3, acquire := 2, deviation := 0, tick := 0 } };
      s.timebase.trunk = .locked ∧ s.sequencer.frame.loss ≤ s.timebase.beats) ∧
    (let s := { base with timebase := { trunk := .acquiring, phase := 0, beats := 3, acquire := 1, deviation := 0, tick := 0 } };
      s.timebase.trunk = .acquiring ∧ s.sequencer.frame.loss ≤ s.timebase.beats) ∧
    base.timebase.trunk = .lost := by decide

/-- A state of a trunk with a phase and a slot number, and a pending set of frame parameters. -/
def beforeMarker (trunk : TrunkState) (phase slot : Nat) : State :=
  { base with
    timebase := { base.timebase with trunk := trunk, phase := phase }
    sequencer := { base.sequencer with slot := slot, pendingFrame := some ⟨8, 256, 64, 2⟩ } }

theorem witness_MarkersActByTheTrunkState :
    (∃ t, exec (.slotBoundary .load) (loadDue (locked base .unused)) = .next t) ∧
    (∀ trunk phase slot, (beforeMarker trunk phase slot).resetLine = false ∧
      (beforeMarker trunk phase slot).sequencer.loadDue = false ∧
      (beforeMarker trunk phase slot).sequencer.frame.InRange ∧
      (∀ f, (beforeMarker trunk phase slot).sequencer.pendingFrame = some f → f.InRange) ∧
      (beforeMarker trunk phase slot).timebase.trunk = trunk) ∧
    ((beforeMarker .acquiring 0 30).sequencer.slot + 1 ≠ (beforeMarker .acquiring 0 30).sequencer.frame.slots) ∧
    ((beforeMarker .acquiring 41 31).sequencer.slot + 1 = (beforeMarker .acquiring 41 31).sequencer.frame.slots ∧
      (beforeMarker .acquiring 41 31).sequencer.frame.slip < min 41 ((beforeMarker .acquiring 41 31).sequencer.frame.beatLen - 41)) ∧
    min 40 ((beforeMarker .acquiring 40 31).sequencer.frame.beatLen - 40) ≤
      (beforeMarker .acquiring 40 31).sequencer.frame.slip := by
  refine ⟨⟨_, rfl⟩, fun trunk phase slot => ⟨rfl, rfl, ?_, ?_, rfl⟩, by decide, by decide, by decide⟩
  · show FrameParams.InRange FrameParams.default
    decide
  · intro f h
    obtain rfl : (⟨8, 256, 64, 2⟩ : FrameParams) = f := Option.some.inj h
    decide

/-- The works that a marker tick brings. By `mem_works` they are the ones that O32 calls due. -/
def markerBrings (s : State) : List TickWork := (s.advance .marker).works .marker s.periodDue

/-- An ACTIVE record whose OFFER awaits its ACCEPT for one tick more. -/
def offerEnding (retries : Nat) : Channel :=
  { active with
    renewal := .offered, pendingEntry := some ⟨7, 5, none⟩, offerTimer := some 1, renewRetries := retries }

/-- A HUNT record whose RESYNC awaits its MARK for one tick more. -/
def resyncEnding (retries : Nat) : Channel :=
  { active with sync := .hunt, challenge := some 9, resyncTimer := some 1, resyncRetries := retries }

/-- A record in its last tick of cutover. -/
def cutting : Channel := { active with renewal := .cutover, previous := some ⟨keyOf 5, Window.empty, 1⟩ }

/-- A record that has heard nothing for the silence limit less one tick. -/
def quiet : Channel := { active with quality := { Quality.fresh with silenceRunning := true, silence := 2047 } }

/-- A tick that closes channel 0 by silence, with a delivered cell, and finds port B ABSENT. -/
def leaving : State :=
  { withRecord quiet with
    presencePeriod := 16
    portB := { base.portB with present := true, timer := 15, cursor := 9 }
    inboundA := [⟨0, 6, 1003, [8, 9]⟩] }

theorem witness_TicksAdvanceEveryCount :
    (withRecord active).chan 0 = active ∧ active.current.isSome ∧ active.state = .active ∧ active.renewal = .idle ∧
      markerBrings { withRecord active with periodTimer := 1023 } = [.score 0] ∧
      markerBrings (withRecord { active with ageLimit := 4001 }) = [.ageTrigger 0] ∧
      markerBrings (withRecord { active with ageLimit := 4001, holdOff := 2 }) = [.ageTrigger 0] ∧
      markerBrings (withRecord { active with ageLimit := 4001, state := .closed }) = [.ageTrigger 0] ∧
      markerBrings (withRecord { active with wanted := some .preset, holdOff := 1 }) = [.holdOffEnd 0] ∧
      markerBrings (withRecord { active with wanted := some .preset, holdOff := 1, ageLimit := 4001 }) =
        [.ageTrigger 0, .holdOffEnd 0] := by decide

theorem witness_TicksAdvanceEveryCount_timers :
    markerBrings (withRecord (offerEnding 1)) = [.offerExpiry 0] ∧
      markerBrings (withRecord (offerEnding 0)) = [.offerExpiry 0] ∧
      markerBrings (withRecord (resyncEnding 1)) = [.resyncExpiry 0] ∧
      markerBrings (withRecord (resyncEnding 0)) = [.resyncExpiry 0] ∧
      markerBrings (withRecord { resyncEnding 0 with renewal := .agreed }) = [.resyncExpiry 0] ∧
      markerBrings (withRecord { resyncEnding 0 with state := .closed }) = [.resyncExpiry 0] ∧
      markerBrings (withRecord cutting) = [.cutoverExpiry 0] ∧
      markerBrings (withRecord { cutting with wanted := some .preset, holdOff := 1 }) = [.cutoverExpiry 0] ∧
      markerBrings (withRecord { cutting with wanted := some .preset, holdOff := 2 }) = [.cutoverExpiry 0] ∧
      markerBrings (withRecord quiet) = [.silence 0] ∧
      (offerEnding 0).pendingEntry = some ⟨7, 5, none⟩ ∧ (resyncEnding 0).challenge = some 9 := by decide

theorem witness_TicksAdvanceEveryCount_beside :
    markerBrings (withRecord { offerEnding 1 with ageLimit := 4001 }) = [.ageTrigger 0, .offerExpiry 0] ∧
      markerBrings (withRecord { offerEnding 0 with ageLimit := 4001 }) = [.ageTrigger 0, .offerExpiry 0] ∧
      (offerEnding 0).renewal ≠ .idle ∧ (withRecord (offerEnding 0)).renewalParams.tOffer ≠ 0 ∧
      markerBrings (withRecord { resyncEnding 1 with ageLimit := 4001 }) = [.ageTrigger 0, .resyncExpiry 0] ∧
      markerBrings (withRecord { resyncEnding 1 with ageLimit := 4001, holdOff := 2 }) =
        [.ageTrigger 0, .resyncExpiry 0] ∧
      markerBrings (withRecord { resyncEnding 0 with ageLimit := 4001 }) = [.ageTrigger 0, .resyncExpiry 0] ∧
      markerBrings (withRecord { cutting with ageLimit := 4001 }) = [.ageTrigger 0, .cutoverExpiry 0] ∧
      cutting.renewal ≠ .idle ∧
      markerBrings (withRecord { quiet with ageLimit := 4001 }) = [.ageTrigger 0, .silence 0] := by decide

/-- R107, R108: a renewal under a standing AGE cause fails at its last offer expiry, and the cause stays noted. -/
theorem test_failedRenewalKeepsItsAgeCause :
    let t := (withRecord { offerEnding 0 with ageLimit := 4001 }).tick .marker []
    t.log.records.map (fun r => (r.kind, r.channel, r.detail)) = [(.renewFail, some 0, 7)] ∧
      (t.chan 0).renewal = .idle ∧ (t.chan 0).wanted = some .age ∧ (t.chan 0).pendingEntry = none := by decide

/-- A LOCKED trunk whose next marker slips and, with the frame's last slot not reached, cuts the frame; port B's presence
expires at its tick. -/
def slipping (slot : Nat) (turns : List (List Nat)) : State :=
  { beforeMarker .locked 60 slot with
    presencePeriod := 16
    portB := { base.portB with present := true, timer := 15 }
    log := { base.log with turns := turns } }

/-- R156: TRUNK_SLIP of the marker and PORT_ABSENT of its tick reach the log together, and either may be taken first. -/
theorem test_slipAndAbsence :
    holdsAfter (.frameMarker [] .later) (slipping 31 [])
        (fun t => decide (t.log.records.map (·.kind) = [.trunkSlip, .portAbsent])) = true ∧
      holdsAfter (.frameMarker [] .later) (slipping 31 [[], [1, 0]])
        (fun t => decide (t.log.records.map (·.kind) = [.portAbsent, .trunkSlip])) = true := by decide

/-- R33, R156: TRUNK_FRAMING and TRUNK_SLIP of one marker are taken in that order; the one may be taken with the other
still waiting. -/
theorem test_framingBeforeSlip :
    holdsAfter (.frameMarker [] .later) (slipping 30 [[], [1, 0], [], [0]])
      (fun t => decide (t.log.records.map (·.kind) = [.trunkFraming] ∧
        t.log.waiting.map (·.report.kind) = [.trunkSlip, .portAbsent])) = true := by decide

/-- R156: the INBOUND_OVERRUNs of two arrivals of one tick may be taken in either order, those of one adoption in ascending
channels only. -/
theorem test_overrunsOfOneEventAndOfTwo :
    let s := { base with log := { base.log with turns := [[], [1, 0]] } }
    ((s.raise .inboundOverrun (some 4) (some .b) 500).raise .inboundOverrun (some 9) (some .b) 501).log.records.map
        (·.channel) = [some 9, some 4] ∧
      ((s.raiseOverruns [4, 9] .b [⟨4, 1, 500, [7]⟩, ⟨9, 1, 501, [7]⟩]).log.records.map (·.channel) = [some 4]) := by
  decide

/-- A record one tag failure short of the loss of sync and of a storm; the log's first turn passes, and its second takes the
second waiting fault first where it may. -/
def failing : State :=
  let s := withRecord { active with
    syncLoss := 3, quality := { active.quality with counts := { active.quality.counts with t := 31 } } }
  { s with log := { s.log with turns := [[], [1, 0]] } }

/-- R146, R156: the SYNC_LOST and the TAG_STORM of one tag failure are taken in that order; those of two events in either. -/
theorem test_lossAndStormOfOneEventAndOfTwo :
    (failing.asOneEvent (·.raiseSyncLoss 0) (·.countT 0)).log.records.map (·.kind) = [.syncLost] ∧
      ((failing.asOneEvent (·.raiseSyncLoss 0) (·.countT 0)).log.event = 1) ∧
      ((failing.raiseSyncLoss 0).countT 0).log.records.map (·.kind) = [.tagStorm, .syncLost] := by decide

/-- R163: a PORT_RETURNED that the log takes after port B has gone ABSENT again is judged with it PRESENT: in a full log that
B has not read it finds no room, as in the chapter's worked example; where B has read the two oldest, a LOST record and it
are appended and it counts 63. -/
theorem test_returnJudgedPresent :
    let log : FaultLog := { logOf 64 5 with waiting := [⟨0, 9, ⟨.portReturned, none, some .b, 0⟩⟩] }
    (log.turn base.link).lost = 6 ∧ (log.turn base.link).records = log.records ∧
      ((log.turn (fun _ => { base.portB with cursor := 3 })).records.map (·.detail)).getLast? = some 63 := by decide

/-- R163: PORT_RETURNED counts the records unread as the log takes it. -/
theorem test_returnCountsWhenTaken :
    ((({ logOf 2 0 with waiting := [⟨0, 9, ⟨.portReturned, none, some .b, 0⟩⟩] } : FaultLog).turn base.link).records.map
      (·.detail)).getLast? = some 2 := by decide

theorem witness_TicksAdvanceEveryCount_log : markerBrings leaving = [.silence 0, .presence .b] := by decide

/-- R148, R163, R173 and log entry 6: the event may name the order of SILENT and PORT_ABSENT; the cell leaves with its
channel. -/
theorem test_tickRaisesItsFaultsInTheOrderNamed :
    (leaving.tick .marker [.presence .b, .silence 0]).log.records.map (fun r => (r.kind, r.channel, r.port, r.detail)) =
        [(.portAbsent, none, some .b, 16), (.silent, some 0, some .a, 2048)] ∧
      (leaving.tick .marker []).log.records.map (·.kind) = [.silent, .portAbsent] ∧
      (leaving.tick .marker []).inboundA = [] := by decide

theorem closedValues_fits : Channel.closedValues.Fits := by
  constructor <;> simp [Channel.EntriesFit, Channel.RenewalFits, Channel.ExchangeFits, Channel.NonePending, Channel.ListFits, Channel.OwnerFits, Channel.closedValues]

theorem base_chan (c : Fin 48) : base.chan c = Channel.closedValues := by simp [base, State.chan, State.reset]

theorem withRecord_chan (r : Channel) (c : Fin 48) :
    (withRecord r).chan c = if (0 : Fin 48) = c then r else Channel.closedValues := by
  rw [withRecord, chan_setChan, base_chan]

/-- A state with one record that fits and is bound to slot 0 has sound records. -/
theorem withRecord_sound (r : Channel) (h : r.Fits) (hm : r.master = some 0) : (withRecord r).RecordsSound := by
  refine ⟨fun c => ?_, fun c hc => ?_⟩
  · rw [withRecord_chan]; split
    · exact h
    · exact closedValues_fits
  · rw [withRecord_chan] at hc ⊢; split at hc
    · rename_i h0
      exact ⟨0, by simp [h0, hm], fun h => nomatch h⟩
    · exact absurd rfl hc

theorem opened_fits : (Channel.opened 0 7 .a).Fits := by
  constructor <;>
    simp [Channel.EntriesFit, Channel.RenewalFits, Channel.ExchangeFits, Channel.NonePending, Channel.ListFits, Channel.OwnerFits, Channel.opened, Channel.closedValues]

theorem active_fits : active.Fits := by
  constructor <;>
    simp [Channel.EntriesFit, Channel.RenewalFits, Channel.ExchangeFits, Channel.NonePending, Channel.ListFits, Channel.OwnerFits, active, Channel.opened, Channel.closedValues]

theorem keying_fits : keying.Fits := by
  constructor <;>
    simp [Channel.EntriesFit, Channel.RenewalFits, Channel.ExchangeFits, Channel.NonePending, Channel.ListFits, Channel.OwnerFits, keying, Channel.opened, Channel.closedValues,
      ControlCell.family]

theorem witness_TicksEndOpeningAndClosing :
    ((withRecord (Channel.opened 0 7 .a)).RecordsSound ∧
      let r := (withRecord (Channel.opened 0 7 .a)).chan 0
      r.state = .opening ∧ r.quality.silenceRunning = false ∧ r.master = some 0 ∧ r.shop = some 7 ∧
        (withRecord (Channel.opened 0 7 .a)).masters[(0 : Fin 4)] = .loaded 42 9) ∧
    ((withRecord active.closing).RecordsSound ∧ ((withRecord active.closing).chan 0).state = .closing ∧
      ((withRecord active.closing).chan 47).state = .closed) := by
  refine ⟨⟨withRecord_sound _ opened_fits rfl, by decide⟩, withRecord_sound _ ?_ rfl, rfl, rfl⟩
  constructor <;>
    simp [Channel.EntriesFit, Channel.RenewalFits, Channel.ExchangeFits, Channel.NonePending, Channel.ListFits, Channel.OwnerFits, active, Channel.opened, Channel.closedValues,
      Channel.closing, Channel.teardown]

/-- The slot that the next boundary begins in a `locked` state is served. -/
theorem locked_servesNext (r : Channel) (k : SlotKind) : (locked (withRecord r) k).servesNext k := by
  refine ⟨rfl, rfl, 5, rfl, ?_, by simp [locked]⟩
  show 5 < 32
  decide

/-- The load event of a served slot may be taken with its boundary, and later in the slot. -/
theorem locked_takesLoad (r : Channel) (k : SlotKind) :
    (locked (withRecord r) k).takesLoad (.boundary .now) k ((locked (withRecord r) k).inNextSlot k) ∧
      (loadDue (locked (withRecord r) k)).takesLoad .load k (locked (withRecord r) k) :=
  ⟨⟨rfl, locked_servesNext r k, rfl⟩, rfl, rfl, rfl, rfl⟩

theorem locked_arrivesIn (r : Channel) (k : SlotKind) : (locked (withRecord r) k).arrivesIn k := ⟨rfl, rfl⟩

@[simp] theorem locked_chan (r : Channel) (k : SlotKind) : (locked (withRecord r) k).chan 0 = r := by
  simp [locked, withRecord, State.chan, State.setChan]

theorem witness_DataSlotSendsTheNextCell :
    let e : CurrentEntry := { key := keyOf 9, nextTx := 16776959, age := 0, window := Window.empty }
    let s := locked (withRecord { active with current := some e, outbound := [⟨48, 1⟩] }) (.data 0)
    s.takesLoad (.boundary .now) (.data 0) (s.inNextSlot (.data 0)) ∧ (loadDue s).takesLoad .load (.data 0) s ∧
      (s.chan 0).state = .active ∧ (s.chan 0).held = false ∧ (s.chan 0).current = some e := by
  exact ⟨(locked_takesLoad _ _).1, (locked_takesLoad _ _).2, by simp [active], by simp [active, Channel.opened, Channel.closedValues], by simp⟩

theorem witness_OtherSlotsSendIdleOrNothing :
    (base.resetLine = false ∧ base.sequencer.loadDue = false ∧ base.timebase.trunk ≠ .locked) ∧
    (let s := locked (withRecord active) .unused;
      s.timebase.trunk = .locked ∧
        ({ s with sequencer := { s.sequencer with slot := 31 } } : State).sequencer.frame.slots ≤ min 65535 (31 + 1)) ∧
    (let s := locked (withRecord active) .unused;
      s.servesNext .unused ∧ s.takesLoad (.boundary .now) .unused (s.inNextSlot .unused) ∧
        (loadDue s).takesLoad .load .unused s) ∧
    (let s := locked (withRecord { active with held := true }) (.data 0);
      s.takesLoad (.boundary .now) (.data 0) (s.inNextSlot (.data 0)) ∧ (loadDue s).takesLoad .load (.data 0) s ∧
        (s.chan 0).held = true) ∧
    (let s := locked (withRecord active) .control;
      s.takesLoad (.boundary .now) .control (s.inNextSlot .control) ∧ (loadDue s).takesLoad .load .control s ∧
        ∀ c, (s.chan c).pendingCells = []) ∧
    (∃ t, exec (.slotBoundary .load) (loadDue (locked (withRecord active) (.data 0))) = .next t) := by
  exact ⟨by decide, by decide, ⟨locked_servesNext _ _, locked_takesLoad _ _⟩,
    ⟨(locked_takesLoad _ _).1, (locked_takesLoad _ _).2, by simp⟩,
    ⟨(locked_takesLoad _ _).1, (locked_takesLoad _ _).2, by decide⟩, ⟨_, rfl⟩⟩

/-- 7's worked example: channels 3 and 9 wait, and 7 was served last. -/
def twoWaiting : State :=
  { locked ((withRecord active).setChan 3 { active with pendingCells := [.mark 1] } |>.setChan 9
      { active with pendingCells := [.resync 2, .mark 4] }) .control with lastChannel := 7 }

theorem witness_ControlSlotSendsTheChosenCell :
    (twoWaiting.takesLoad (.boundary .now) .control (twoWaiting.inNextSlot .control) ∧ (twoWaiting.chan 9).pendingCells = .resync 2 :: [.mark 4] ∧
      (∀ d : Fin 48, scanDistance twoWaiting.lastChannel d < scanDistance twoWaiting.lastChannel 9 →
        (twoWaiting.chan d).pendingCells = []) ∧
      (twoWaiting.chan 9).current = active.current) ∧
    (let s := locked (withRecord keying) .control;
      s.takesLoad (.boundary .now) .control (s.inNextSlot .control) ∧ (s.chan 0).pendingCells = .offer 1 5 :: [] ∧
        (∀ d : Fin 48, scanDistance s.lastChannel d < scanDistance s.lastChannel 0 → (s.chan d).pendingCells = []) ∧
        (s.chan 0).shop = some 7 ∧ (s.chan 0).state = .keying ∧ (s.chan 0).base = some (keyOf 0)) ∧
    (let s := locked (withRecord { active with pendingCells := [.mark 1] }) .control;
      (loadDue s).takesLoad .load .control s ∧ (s.chan 0).pendingCells = .mark 1 :: [] ∧
        (∀ d : Fin 48, scanDistance s.lastChannel d < scanDistance s.lastChannel 0 → (s.chan d).pendingCells = []) ∧
        (s.chan 0).current = active.current) := by
  refine ⟨⟨⟨rfl, ⟨rfl, rfl, 5, rfl, by decide, rfl⟩, rfl⟩, rfl, by decide, rfl⟩,
    ⟨(locked_takesLoad _ _).1, rfl, by decide, rfl, rfl, rfl⟩, ⟨(locked_takesLoad _ _).2, rfl, by decide, rfl⟩⟩

theorem witness_SwitchInstallsTheNewEntry :
    let p : PendingEntry := { epoch := 7, nonce := 5, keys := some { kEnc := 3, kTag := 4 } }
    (let s := locked (withRecord { active with
        renewal := .agreed, pendingEntry := some p, sync := .hunt, challenge := some 8, resyncTimer := none,
        pendingCells := [.switch 7, .resync 8] }) .control;
      s.takesLoad (.boundary .now) .control (s.inNextSlot .control) ∧ (s.chan 0).pendingCells = .switch 7 :: [.resync 8] ∧
        (∀ d : Fin 48, scanDistance s.lastChannel d < scanDistance s.lastChannel 0 → (s.chan d).pendingCells = []) ∧
        (s.chan 0).pendingEntry = some p ∧ p.keys = some { kEnc := 3, kTag := 4 } ∧ (s.chan 0).state = .active ∧
        (s.chan 0).current = active.current) ∧
    (let s := locked (withRecord { keying with
        renewal := .agreed, pendingEntry := some p, pendingCells := [.switch 7] }) .control;
      (loadDue s).takesLoad .load .control s ∧ (s.chan 0).pendingCells = .switch 7 :: [] ∧
        (∀ d : Fin 48, scanDistance s.lastChannel d < scanDistance s.lastChannel 0 → (s.chan d).pendingCells = []) ∧
        (s.chan 0).pendingEntry = some p ∧ (s.chan 0).state = .keying) := by
  refine ⟨⟨(locked_takesLoad _ _).1, rfl, by decide, rfl, rfl, rfl, rfl⟩,
    ⟨(locked_takesLoad _ _).2, rfl, by decide, rfl, rfl⟩⟩

/-- The entry that epoch tag 2 selects on `active`. -/
def currentSelection : Selection :=
  { key := keyOf 6, window := { high := some 1000, seen := [1000, 998] }, isCurrent := true }

/-- A record in CUTOVER, whose previous entry has epoch 5 and window 2,000. -/
def cutover : Channel :=
  { active with renewal := .cutover, previous := some ⟨keyOf 5, { high := some 2000, seen := [2000] }, 4⟩ }

theorem active_selects (r : Channel) (h : r.current = active.current) : r.Selects 2 currentSelection :=
  .inl ⟨{ key := keyOf 6, nextTx := 1000, age := 4000, window := { high := some 1000, seen := [1000, 998] } }, h, by decide,
    rfl⟩

theorem cutover_selects : cutover.Selects 1 { key := keyOf 5, window := { high := some 2000, seen := [2000] }, isCurrent := false } := by
  refine .inr ⟨fun e he => ?_, _, rfl, by decide, rfl⟩
  obtain rfl := Option.some.inj he
  decide

theorem active_knows_no_epoch_5 : active.UnknownEpoch 1 := by
  refine ⟨fun e he => ?_, fun p hp => nomatch hp⟩
  obtain rfl := Option.some.inj he
  decide

theorem arriving_isTraffic :
    isTraffic .data 0 (arriving .data 937 48) ∧ isTraffic .data 0 (arriving .data 5096 1) ∧
      isTraffic .pad 0 (arriving .pad 1001 0) ∧ isTraffic .data 0 (arriving .data 5097 48) ∧
      isTraffic .data 0 (arriving .data 936 48) ∧ isTraffic .data 0 (arriving .data 998 48) := by
  refine ⟨?_, ?_, ?_, ?_, ?_, ?_⟩ <;> exact ⟨by decide, by decide, by decide, by decide⟩

theorem sealed_tag_valid (k : Block) (h : BitVec 64) (p : BitVec 384) : tagValid k (sealCell k h p) = true := by
  simp [tagValid, sealCell]

/-- A cell whose tag is the complement of the right one. -/
def spoilt (cell : Cell) : Cell := { cell with tag := ~~~cell.tag }

theorem spoilt_tag_invalid (k : Block) (h : BitVec 64) (p : BitVec 384) : tagValid k (spoilt (sealCell k h p)) = false := by
  simp [tagValid, spoilt, sealCell]

theorem witness_DataSlotArrivalsAreCounted :
    (base.resetLine = false ∧ base.sequencer.kept = none) ∧
    (locked base .unused).sequencer.kept = some .unused ∧
    (let s := locked (withRecord active) (.data 0);
      s.resetLine = false ∧ s.sequencer.kept = some (.data 0) ∧ (s.chan 0).state = .active ∧
        cellKindOf idleCell = some .idle ∧ cellKindOf (controlCell .switch (keyOf 6) 0 0) ≠ some .idle ∧
        (∀ k, ¬ isTraffic k 0 (controlCell .switch (keyOf 6) 0 0)) ∧
        cellKindOf (arriving .data 937 48) ≠ some .idle) ∧
    (let s := locked (withRecord keying) (.data 0);
      s.sequencer.kept = some (.data 0) ∧ (s.chan 0).state ≠ .closed ∧ (s.chan 0).state ≠ .active) ∧
    (let s := locked (withRecord active) (.data 47); s.sequencer.kept = some (.data 47) ∧ (s.chan 47).state = .closed) ∧
    (let s := locked (withRecord { active with sync := .quarantine }) (.data 0);
      (s.chan 0).state = .active ∧ (s.chan 0).sync = .quarantine ∧ isTraffic .data 0 (arriving .data 937 48)) ∧
    (let s := locked (withRecord active) (.data 0);
      (s.chan 0).sync = .sync ∧ isTraffic .pad 0 (sealCell 2 (header .pad 5 0 3 0) 0) ∧
        (s.chan 0).UnknownEpoch (headerEpochTag (sealCell 2 (header .pad 5 0 3 0) 0).header)) := by
  refine ⟨by decide, rfl, ⟨rfl, rfl, rfl, by decide, by decide, fun k h => ?_, by decide⟩, by decide, by decide,
    ⟨rfl, rfl, arriving_isTraffic.1⟩, rfl, ⟨by decide, by decide, by decide, by decide⟩, active_knows_no_epoch_5⟩
  obtain ⟨rfl | rfl, h, -⟩ := h <;> exact absurd h (by decide)

theorem witness_AcceptedCellsAreDelivered :
    (let s := locked (withRecord active) (.data 0)
     let cell := arriving .data 937 48
     s.arrivesIn (.data 0) ∧ (s.chan 0).state = .active ∧ (s.chan 0).sync = .sync ∧ isTraffic .data 0 cell ∧
       (s.chan 0).Selects (headerEpochTag cell.header) currentSelection ∧
       currentSelection.window.preCheck s.receive.jump (headerSequence cell.header).toNat = .acceptable ∧
       tagValid currentSelection.key.keys.kTag cell = true ∧ (s.chan 0).serving = some .a ∧ (s.inbound .a).length < 32) ∧
    (let s := { locked (withRecord active) (.data 0) with inboundA := List.replicate 32 ⟨0, 6, 1000, [1]⟩ }
     let cell := arriving .data 5096 1
     s.arrivesIn (.data 0) ∧ (s.chan 0).state = .active ∧ (s.chan 0).sync = .sync ∧ isTraffic .data 0 cell ∧
       (s.chan 0).Selects (headerEpochTag cell.header) currentSelection ∧
       currentSelection.window.preCheck s.receive.jump (headerSequence cell.header).toNat = .acceptable ∧
       tagValid currentSelection.key.keys.kTag cell = true ∧ (s.chan 0).serving = some .a ∧ 32 ≤ (s.inbound .a).length) ∧
    (let s := locked (withRecord { active with sync := .suspended }) (.data 0)
     let cell := arriving .pad 1001 0
     s.arrivesIn (.data 0) ∧ (s.chan 0).state = .active ∧ (s.chan 0).sync = .suspended ∧ isTraffic .pad 0 cell ∧
       (s.chan 0).Selects (headerEpochTag cell.header) currentSelection ∧
       currentSelection.window.preCheck s.receive.jump (headerSequence cell.header).toNat = .acceptable ∧
       tagValid currentSelection.key.keys.kTag cell = true) := by
  refine ⟨⟨locked_arrivesIn _ _, rfl, rfl, arriving_isTraffic.1, active_selects _ rfl, by decide, sealed_tag_valid _ _ _, rfl,
      by decide⟩,
    ⟨⟨rfl, rfl⟩, rfl, rfl, arriving_isTraffic.2.1, active_selects _ rfl, by decide, sealed_tag_valid _ _ _, rfl, by decide⟩,
    ⟨locked_arrivesIn _ _, rfl, rfl, arriving_isTraffic.2.2.1, active_selects _ rfl, by decide, sealed_tag_valid _ _ _⟩⟩

/-- The same of the previous entry in CUTOVER. -/
theorem witness_AcceptedCellsAreDelivered_under_the_previous_entry :
    let s := locked (withRecord cutover) (.data 0)
    let cell := sealCell 2 (header .data 5 0 1937 48) 0
    let sel : Selection := { key := keyOf 5, window := { high := some 2000, seen := [2000] }, isCurrent := false }
    s.arrivesIn (.data 0) ∧ (s.chan 0).state = .active ∧ (s.chan 0).sync = .sync ∧ isTraffic .data 0 cell ∧
      (s.chan 0).Selects (headerEpochTag cell.header) sel ∧
      sel.window.preCheck s.receive.jump (headerSequence cell.header).toNat = .acceptable ∧
      tagValid sel.key.keys.kTag cell = true := by
  refine ⟨locked_arrivesIn _ _, rfl, rfl, ⟨by decide, by decide, by decide, by decide⟩, cutover_selects, by decide,
    sealed_tag_valid _ _ _⟩

theorem witness_RejectedCellsAreCounted :
    let s := locked (withRecord active) (.data 0)
    s.arrivesIn (.data 0) ∧ (s.chan 0).state = .active ∧ (s.chan 0).sync = .sync ∧
      (isTraffic .data 0 (arriving .data 5097 48) ∧
        (s.chan 0).Selects (headerEpochTag (arriving .data 5097 48).header) currentSelection ∧
        currentSelection.window.preCheck s.receive.jump 5097 = .jump) ∧
      (isTraffic .data 0 (arriving .data 936 48) ∧
        (s.chan 0).Selects (headerEpochTag (arriving .data 936 48).header) currentSelection ∧
        currentSelection.window.preCheck s.receive.jump 936 = .stale) ∧
      (isTraffic .data 0 (arriving .data 998 48) ∧
        (s.chan 0).Selects (headerEpochTag (arriving .data 998 48).header) currentSelection ∧
        currentSelection.window.preCheck s.receive.jump 998 = .duplicate) ∧
      (isTraffic .data 0 (spoilt (arriving .data 937 48)) ∧
        (s.chan 0).Selects (headerEpochTag (spoilt (arriving .data 937 48)).header) currentSelection ∧
        currentSelection.window.preCheck s.receive.jump 937 = .acceptable ∧
        tagValid currentSelection.key.keys.kTag (spoilt (arriving .data 937 48)) = false) := by
  refine ⟨locked_arrivesIn _ _, rfl, rfl, ⟨arriving_isTraffic.2.2.2.1, active_selects _ rfl, by decide⟩,
    ⟨arriving_isTraffic.2.2.2.2.1, active_selects _ rfl, by decide⟩,
    ⟨arriving_isTraffic.2.2.2.2.2, active_selects _ rfl, by decide⟩,
    ⟨arriving_isTraffic.1, active_selects _ rfl, by decide, spoilt_tag_invalid _ _ _⟩⟩

theorem witness_WindowFollowsItsTables :
    let w : Window := ⟨some 1000, [1000, 998]⟩
    Window.empty.high = none ∧ 0 < 1 ∧ w.high = some 1000 ∧ 1000 < 1001 ∧ 4096 < 5097 - 1000 ∧ ¬ 4096 < 5096 - 1000 ∧
      64 ≤ 1000 - 936 ∧ ¬ 64 ≤ 1000 - 937 ∧ 998 ∈ w.seen ∧ 1000 < 1002 - 1 ∧ 1001 - 1 ≤ 1000 := by decide

theorem window_fits : (⟨some 1000, [1000, 998]⟩ : Window).Fits := by simp [Window.Fits]

theorem witness_NoSequenceIsAcceptedTwice :
    (⟨some 1000, [1000, 998]⟩ : Window).Fits ∧ Window.preCheck ⟨some 1000, [1000, 998]⟩ 4096 937 = .acceptable ∧
      Window.preCheck ⟨some 1000, [1000, 998]⟩ 4096 5096 = .acceptable := ⟨window_fits, by decide, by decide⟩

/-- A resync cell whose header has length 9 where 8 is the kind's own. -/
def tooLong : Cell := sealCell 2 (header .resync 6 0 0 9) 0

/-- A resync cell whose header fails CHECK. -/
def unchecked : Cell := { controlCell .resync (keyOf 6) 0 0 with header := 0xC8000000000800FF }

theorem isControl_of_header {k : CellKind} {c : Fin 48} {x y : Cell} (h : y.header = x.header) (hx : isControl k c x) :
    isControl k c y := by
  simpa only [isControl, namesChannel, cellKindOf, h] using hx

theorem isControl_of (k : CellKind) (h : k = .request ∨ k = .resync ∨ k = .mark) (payload : BitVec 384) :
    isControl k 0 (controlCell k (keyOf 6) 0 payload) := by
  have zero : isControl k 0 (controlCell k (keyOf 6) 0 0) := by
    rcases h with rfl | rfl | rfl <;> exact ⟨⟨by decide, by decide, by decide, by decide, by decide⟩, by decide, by decide⟩
  exact isControl_of_header (by simp only [controlCell, sealCell]) zero

theorem witness_ControlSlotArrivalsAreDispatched :
    (let s := locked (withRecord active) .control;
      s.arrivesIn .control ∧ cellKindOf idleCell = some .idle ∧ cellKindOf (arriving .data 937 48) = some .data ∧
        cellKindOf { idleCell with header := 0x3F00000000000000 } = none ∧
        (cellKindOf unchecked = some .resync ∧ CellKind.resync.controlLength.isSome ∧ ∀ c, ¬ namesChannel .resync c unchecked) ∧
        (namesChannel .resync 30 (controlCell .resync (keyOf 6) 30 0) ∧ (s.chan 30).state = .closed) ∧
        (namesChannel .resync 0 tooLong ∧ (s.chan 0).state ≠ .closed ∧ ¬ isControl .resync 0 tooLong) ∧
        (namesChannel .offer 0 (controlCell .offer (keyOf 6) 0 0) ∧ (s.chan 0).state ≠ .closed)) := by
  refine ⟨locked_arrivesIn _ _, by decide, by decide, by decide, ⟨by decide, by decide, fun c h => absurd h.2.2.1 (by decide)⟩,
    ⟨⟨by decide, by decide, by decide, by decide, by decide⟩, by decide⟩,
    ⟨⟨by decide, by decide, by decide, by decide, by decide⟩, by decide, fun h => absurd h.2.2 (by decide)⟩,
    ⟨⟨by decide, by decide, by decide, by decide, by decide⟩, by decide⟩⟩

theorem witness_ControlSlotArrivalsAreDispatched_sound :
    (let s := locked (withRecord keying) .control
     s.arrivesIn .control ∧ isControl .request 0 (controlCell .request (keyOf 6) 0 0) ∧ (s.chan 0).state ≠ .closed ∧
       (s.chan 0).state ≠ .active) ∧
    (let s := locked (withRecord active) .control
     (s.chan 0).state = .active ∧ isControl .resync 0 (controlCell .resync (keyOf 5) 0 0) ∧
       (s.chan 0).UnknownEpoch (headerEpochTag (controlCell .resync (keyOf 5) 0 0).header) ∧
       isControl .mark 0 (spoilt (controlCell .mark (keyOf 6) 0 0)) ∧
       (s.chan 0).Selects (headerEpochTag (spoilt (controlCell .mark (keyOf 6) 0 0)).header) currentSelection ∧
       tagValid currentSelection.key.keys.kTag (spoilt (controlCell .mark (keyOf 6) 0 0)) = false) := by
  refine ⟨⟨locked_arrivesIn _ _, isControl_of _ (by decide) _, by decide, by decide⟩, rfl,
    ⟨⟨by decide, by decide, by decide, by decide, by decide⟩, by decide, by decide⟩, active_knows_no_epoch_5,
    isControl_of .mark (by decide) 0, active_selects _ rfl, spoilt_tag_invalid _ _ _⟩

/-- The payload of an ACCEPT of epoch 7 that echoes nonce 5 and brings shop nonce 9. -/
def acceptance : BitVec 384 := 7#8 ++ 5#64 ++ 9#64 ++ 0#248

/-- That ACCEPT under the keys it derives from the master key of slot 0 and shop code 7. -/
def accepting : Cell := controlCell .accept (deriveEntry 42 0 7 7 5 9) 0 acceptance

/-- A record that offers epoch 7 with nonce 5. -/
def offering : Channel :=
  { active with renewal := .offered, pendingEntry := some { epoch := 7, nonce := 5, keys := none }, offerTimer := some 9 }

theorem accepting_isControl : isControl .accept 0 accepting ∧ isControl .accept 0 (spoilt accepting) ∧
    isControl .accept 0 (controlCell .accept (keyOf 7) 0 0) := by
  refine ⟨?_, ?_, ?_⟩ <;> exact ⟨⟨by decide, by decide, by decide, by decide, by decide⟩, by decide, by decide⟩

/-- R129's single-slot case: an OFFER queued again waits, and the ACCEPT of an earlier send of it arrives. -/
def offeringAgain : State := loadDue (locked (withRecord { offering with pendingCells := [.offer 7 5] }) .control)

/-- R129's single-slot case, ACCEPT taken first: the SWITCH replaces the waiting OFFER, and the load event of the same
slot sends it and installs epoch 7. -/
theorem test_accept_before_the_load_event :
    ∃ t, exec (.controlSlotArrival (some accepting)) offeringAgain = .next t ∧ (t.chan 0).pendingCells = [.switch 7] ∧
      holdsAfter (.slotBoundary .load) t (fun u => decide ((u.lineOut.bind cellKindOf) = some .switch ∧
        (u.chan 0).pendingCells = [] ∧ (u.chan 0).current.map (·.key.epoch) = some 7)) = true := by
  have h : exec (.controlSlotArrival (some accepting)) offeringAgain =
      .next (offeringAgain.verifyAccept 0 { epoch := 7, nonce := 5, keys := none } accepting) := by rfl
  refine ⟨_, h, ?_⟩
  have hv : offeringAgain.verifyAccept 0 { epoch := 7, nonce := 5, keys := none } accepting =
      offeringAgain.modChan 0
        (fun r => (r.agree { epoch := 7, nonce := 5, keys := none } (deriveEntry 42 0 7 7 5 9).keys).countG) :=
    if_pos (sealed_tag_valid _ _ _)
  rw [hv]
  exact ⟨rfl, rfl⟩

theorem witness_AcceptIsJudgedAndVerified :
    (let s := locked (withRecord active) .control
     s.arrivesIn .control ∧ isControl .accept 0 accepting ∧ (s.chan 0).state ≠ .closed ∧ (s.chan 0).renewal = .idle) ∧
    (let s := locked (withRecord cutover) .control
     (s.chan 0).state = .active ∧ (s.chan 0).renewal = .cutover) ∧
    (let s := locked (withRecord offering) .control
     (s.chan 0).state = .active ∧ (s.chan 0).renewal = .offered ∧
       (s.chan 0).pendingEntry = some { epoch := 7, nonce := 5, keys := none } ∧
       isControl .accept 0 (controlCell .accept (keyOf 7) 0 0) ∧
       (cellPayload (controlCell .accept (keyOf 7) 0 0)).extractLsb' 376 8 ≠ 7#8 ∧
       (headerEpochTag accepting.header = epochTag 7 ∧ (cellPayload accepting).extractLsb' 376 8 = 7#8 ∧
         (cellPayload accepting).extractLsb' 312 64 = 5#64 ∧ (cellPayload accepting).extractLsb' 248 64 = 9#64) ∧
       (s.chan 0).master = some 0 ∧ s.masters[(0 : Fin 4)] = .loaded 42 9 ∧ (s.chan 0).shop = some 7 ∧
       tagValid (deriveEntry 42 0 7 7 5 9).keys.kTag accepting = true ∧
       tagValid (deriveEntry 42 0 7 7 5 9).keys.kTag (spoilt accepting) = false ∧
       isControl .accept 0 (spoilt accepting)) := by
  refine ⟨⟨locked_arrivesIn _ _, accepting_isControl.1, by decide, rfl⟩, ⟨rfl, rfl⟩, rfl, rfl, rfl, accepting_isControl.2.2,
    by decide +kernel, ⟨by decide, by decide +kernel, by decide +kernel, by decide +kernel⟩, rfl, rfl, rfl, sealed_tag_valid _ _ _, spoilt_tag_invalid _ _ _,
    accepting_isControl.2.1⟩

theorem witness_ValidControlCellsAreHandled :
    (let s := locked (withRecord active) .control
     let cell := controlCell .resync (keyOf 6) 0 1
     s.arrivesIn .control ∧ isControl .resync 0 cell ∧ (s.chan 0).state = .active ∧
       (s.chan 0).Selects (headerEpochTag cell.header) currentSelection ∧
       tagValid currentSelection.key.keys.kTag cell = true) ∧
    (let s := locked (withRecord { active with sync := .hunt, challenge := some 8, resyncTimer := some 3 }) .control
     let cell := controlCell .mark (keyOf 6) 0 (8#64 ++ 6#8 ++ 1001#24 ++ 0#288)
     isControl .mark 0 cell ∧ (s.chan 0).state = .active ∧
       (s.chan 0).Selects (headerEpochTag cell.header) currentSelection ∧
       tagValid currentSelection.key.keys.kTag cell = true ∧ currentSelection.isCurrent = true ∧
       (s.chan 0).challenge = some ((cellPayload cell).extractLsb' 320 64) ∧
       (cellPayload cell).extractLsb' 312 8 = currentSelection.key.epoch) ∧
    (let s := locked (withRecord active) .control
     let cell := controlCell .mark (keyOf 6) 0 1
     isControl .mark 0 cell ∧ (s.chan 0).Selects (headerEpochTag cell.header) currentSelection ∧
       tagValid currentSelection.key.keys.kTag cell = true ∧ (s.chan 0).challenge = none) := by
  refine ⟨⟨locked_arrivesIn _ _, isControl_of _ (by decide) _, rfl, active_selects _ rfl, sealed_tag_valid _ _ _⟩,
    ⟨isControl_of _ (by decide) _, rfl, active_selects _ rfl, sealed_tag_valid _ _ _, rfl, by decide +kernel,
      by decide +kernel⟩,
    ⟨isControl_of _ (by decide) _, active_selects _ rfl, sealed_tag_valid _ _ _, rfl⟩⟩

/-- The same of REQUEST: honoured at key age 512, and not at 511. -/
theorem witness_ValidControlCellsAreHandled_request (age : Nat) (h : age = 512 ∨ age = 511) :
    let sel : Selection := { key := keyOf 6, window := Window.empty, isCurrent := true }
    let e : CurrentEntry := { key := keyOf 6, nextTx := 1, age := age, window := Window.empty }
    let s := locked (withRecord { active with current := some e }) .control
    let cell := controlCell .request (keyOf 6) 0 0
    s.arrivesIn .control ∧ isControl .request 0 cell ∧ (s.chan 0).state = .active ∧
      (s.chan 0).Selects (headerEpochTag cell.header) sel ∧ tagValid sel.key.keys.kTag cell = true ∧
      (s.chan 0).current = some e ∧
      ((s.chan 0).renewal = .idle ∧ (s.chan 0).holdOff = 0 ∧ 8 * s.renewalParams.tOffer ≤ e.age ↔ age = 512) := by
  refine ⟨locked_arrivesIn _ _, isControl_of _ (by decide) _, rfl, .inl ⟨_, rfl, (by decide : epochTag 6 = 2), rfl⟩,
    sealed_tag_valid _ _ _, rfl, ?_⟩
  rcases h with rfl | rfl <;> decide

theorem witness_TriggersStartRenewals :
    ((base.chan 0).state ≠ .keying ∧ (base.chan 0).state ≠ .active) ∧
    (((withRecord active).chan 0).state = .active ∧ ((withRecord active).chan 0).renewal = .idle ∧
      ((withRecord active).chan 0).holdOff = 0) ∧
    (((withRecord { active with holdOff := 1 }).chan 0).renewal = .idle ∧
      ((withRecord { active with holdOff := 1 }).chan 0).holdOff ≠ 0 ∧
      ¬ (Cause.age = .command ∨ Cause.age = .resync ∨ Cause.age = .storm)) ∧
    ((withRecord keying).chan 0).renewal ≠ .idle ∧
    ((∀ z ∈ [ControlCell.resync 1], z.family ≠ (ControlCell.mark 2).family) ∧
      (∀ z ∈ [ControlCell.offer 1 1], z.family ≠ (ControlCell.mark 2).family) ∧
      (ControlCell.mark 3).family = (ControlCell.mark 2).family) := by decide

theorem witness_SyncLossAndStormsAct :
    (let s := withRecord { active with syncLoss := 4 };
      s.resetLine = false ∧ (s.chan 0).state = .active ∧ (s.chan 0).sync = .sync ∧ s.receive.threshold ≤ (s.chan 0).syncLoss) ∧
    (let s := withRecord { active with syncLoss := 3 }; ¬ s.receive.threshold ≤ (s.chan 0).syncLoss) ∧
    (let s := withRecord { active with sync := .hunt }; (s.chan 0).sync = .hunt) ∧
    (let s := withRecord { active with quality := { Quality.fresh with counts := { Counts.zero with t := 32 } } };
      (s.chan 0).quality.storm = false ∧ s.qualityParams.stormLimit ≤ (s.chan 0).quality.counts.t ∧
        (s.chan 0).state = .active ∧ (s.chan 0).sync ≠ .quarantine) ∧
    (let s := withRecord { keying with quality := { Quality.fresh with counts := { Counts.zero with t := 32 } } };
      (s.chan 0).quality.storm = false ∧ s.qualityParams.stormLimit ≤ (s.chan 0).quality.counts.t ∧
        (s.chan 0).state ≠ .active) ∧
    (let s := withRecord { active with quality := { Quality.fresh with counts := { Counts.zero with t := 31 } } };
      ¬ s.qualityParams.stormLimit ≤ (s.chan 0).quality.counts.t) := by decide

/-- An ACTIVE record with a next tx sequence, a key age, a preset and an age limit. -/
def keyed (nextTx age preset ageLimit : Nat) : Channel :=
  { active with
    current := some { key := keyOf 6, nextTx := nextTx, age := age, window := Window.empty }, preset := preset
    ageLimit := ageLimit }

theorem witness_RecordEventsActOnTheirConditions :
    (let e : CurrentEntry := { key := keyOf 6, nextTx := 16776960, age := 256, window := Window.empty }
     let s := withRecord (keyed 16776960 256 1024 256)
     s.resetLine = false ∧ (s.chan 0).current = some e ∧ (s.chan 0).state = .active ∧ e.nextTx = 16776960 ∧
       (s.chan 0).held = false ∧ (s.chan 0).preset < e.nextTx ∧ (s.chan 0).ageLimit ≠ 0 ∧ (s.chan 0).ageLimit ≤ e.age) ∧
    (let e : CurrentEntry := { key := keyOf 6, nextTx := 1024, age := 255, window := Window.empty }
     let s := withRecord (keyed 1024 255 1024 256)
     (s.chan 0).current = some e ∧ e.nextTx ≠ 16776960 ∧ e.nextTx ≤ (s.chan 0).preset ∧ e.age < (s.chan 0).ageLimit) ∧
    (base.chan 0).current = none ∧
    (let s := withRecord (Channel.opened 0 7 .a)
     (s.chan 0).state = .opening ∧ (s.chan 0).master = some 0 ∧ s.masters[(0 : Fin 4)] = .loaded 42 9 ∧
       (s.chan 0).shop = some 7) ∧
    ((withRecord active).chan 0).state ≠ .opening ∧ ((withRecord active.closing).chan 0).state = .closing ∧
    ((withRecord active).chan 0).state ≠ .closing ∧
    2 ≤ ((withRecord { active with holdOff := 2 }).chan 0).holdOff ∧
    (let s := withRecord { active with holdOff := 1, wanted := some .age }
     (s.chan 0).holdOff ≤ 1 ∧ (s.chan 0).wanted = some .age ∧ (s.chan 0).renewal = .idle ∧ (s.chan 0).state = .active) ∧
    (let s := withRecord { active with holdOff := 1 }
     (s.chan 0).holdOff ≤ 1 ∧ (s.chan 0).wanted = none) := by
  refine ⟨⟨rfl, rfl, rfl, rfl, rfl, ?_, ?_, ?_⟩, ⟨rfl, ?_, ?_, ?_⟩, by decide, by decide, by decide, by decide, by decide,
    by decide, by decide, by decide⟩ <;> decide +kernel

theorem witness_TimersExpire :
    (base.resetLine = false ∧ base.timebase.trunk ≠ .locked) ∧
    (let s := locked (withRecord { keying with offerTimer := some 1, pendingCells := [] }) .unused;
      s.resetLine = false ∧ s.timebase.trunk = .locked ∧ (s.chan 0).offerTimer = some 1 ∧
        (s.chan 0).pendingEntry = some { epoch := 1, nonce := 5, keys := none } ∧ 1 ≤ (s.chan 0).renewRetries) ∧
    (let s := locked (withRecord { keying with offerTimer := some 1, pendingCells := [], renewRetries := 0 }) .unused;
      (s.chan 0).offerTimer = some 1 ∧ (s.chan 0).pendingEntry = some { epoch := 1, nonce := 5, keys := none } ∧
        (s.chan 0).renewRetries = 0) ∧
    ((withRecord active).chan 0).offerTimer = none ∧
    ((withRecord { keying with offerTimer := some 2 }).chan 0).offerTimer = some 2 ∧
    (let s := locked (withRecord { active with
        sync := .hunt, challenge := some 8, resyncTimer := some 1, resyncRetries := 1 }) .unused;
      s.timebase.trunk = .locked ∧ (s.chan 0).resyncTimer = some 1 ∧ (s.chan 0).challenge = some 8 ∧
        1 ≤ (s.chan 0).resyncRetries) ∧
    (let s := locked (withRecord { active with
        sync := .hunt, challenge := some 8, resyncTimer := some 1, resyncRetries := 0 }) .unused;
      (s.chan 0).resyncTimer = some 1 ∧ (s.chan 0).challenge = some 8 ∧ (s.chan 0).resyncRetries = 0) ∧
    ((withRecord { active with resyncTimer := some 2 }).chan 0).resyncTimer = some 2 := by decide

/-- The cutover timer's clauses, at its last count and above it. -/
theorem witness_TimersExpire_cutover :
    (let s := locked (withRecord { cutover with previous := some ⟨keyOf 5, Window.empty, 1⟩, wanted := some .age }) .unused;
      s.timebase.trunk = .locked ∧ (s.chan 0).previous = some ⟨keyOf 5, Window.empty, 1⟩ ∧ (s.chan 0).wanted = some .age ∧
        (s.chan 0).state = .active ∧ (s.chan 0).holdOff = 0) ∧
    (let s := locked (withRecord { cutover with previous := some ⟨keyOf 5, Window.empty, 1⟩ }) .unused;
      (s.chan 0).wanted = none) ∧
    (let s := locked (withRecord { cutover with
        previous := some ⟨keyOf 5, Window.empty, 1⟩, wanted := some .age, holdOff := 1 }) .unused;
      (s.chan 0).wanted = some .age ∧ (s.chan 0).holdOff ≠ 0 ∧ Cause.age.forcing = false) ∧
    ((withRecord { cutover with previous := some ⟨keyOf 5, Window.empty, 2⟩ }).chan 0).previous =
      some ⟨keyOf 5, Window.empty, 2⟩ := by decide

theorem witness_SilenceAndPresenceEnd :
    (let s := locked (withRecord { active with quality := { Quality.fresh with silenceRunning := true, silence := 2047 } }) .unused;
      s.resetLine = false ∧ s.timebase.trunk = .locked ∧ (s.chan 0).quality.silenceRunning = true ∧
        s.qualityParams.silenceLimit ≤ min 65535 ((s.chan 0).quality.silence + 1) ∧ (s.chan 0).serving = some .a) ∧
    (let s := locked (withRecord { active with quality := { Quality.fresh with silenceRunning := true, silence := 2046 } }) .unused;
      ¬ s.qualityParams.silenceLimit ≤ min 65535 ((s.chan 0).quality.silence + 1)) ∧
    (let s := { base with portB := { base.portB with present := true, timer := 511 } };
      (s.link .b).present = true ∧ s.presencePeriod ≤ min 65535 ((s.link .b).timer + 1)) ∧
    (let s := { base with portB := { base.portB with present := true, timer := 510 } };
      ¬ s.presencePeriod ≤ min 65535 ((s.link .b).timer + 1)) := by decide

theorem witness_PeriodEndsScoreEveryChannel :
    (let s := { withRecord active with periodTimer := 1022 };
      s.resetLine = false ∧ min 65535 (s.periodTimer + 1) < s.qualityParams.period) ∧
    (let s := { withRecord { active with quality := { Quality.fresh with counts := ⟨1, 0, 0, 0, 1, 0, 0, 0, 0⟩ } } with
        periodTimer := 1023 };
      s.qualityParams.period ≤ min 65535 (s.periodTimer + 1) ∧ (s.chan 0).state ≠ .closed ∧
        (s.chan 0).quality.low = false ∧ (3 * 1000 + 1000 * 1 / 2 + 2) / 4 < s.qualityParams.low ∧
        ∀ d : Fin 48, d ≠ 0 → (s.chan d).state = .closed) ∧
    (twoFailing.resetLine = false ∧ twoFailing.qualityParams.period ≤ min 65535 (twoFailing.periodTimer + 1) ∧
      [TickWork.score 9, .score 0] = ([9, 0] : List (Fin 48)).map TickWork.score ∧ ([9, 0] : List (Fin 48)).Nodup ∧
      (twoFailing.chan 0).quality.low = false ∧ (twoFailing.chan 9).quality.low = false ∧
      (3 * 1000 + 0 + 2) / 4 < twoFailing.qualityParams.low ∧
      ∀ d : Fin 48, d ∉ ([9, 0] : List (Fin 48)) → (twoFailing.chan d).state = .closed) := by decide

theorem witness_FormedCellsAreSound :
    (CellKind.data = .data ∧ 1 ≤ 48 ∧ 48 ≤ 48) ∧ (CellKind.pad = .pad ∧ 0 = 0) ∧ 16776959 < 16776960 ∧
      CellKind.offer.controlLength.isSome ∧
      keystreamBlock (keyOf 6) 1 47 9 2 = keystreamBlock { epoch := 6, keys := (keyOf 6).keys } 1 47 9 2 :=
  ⟨by decide, by decide, by decide, rfl, rfl⟩

/-! ### Sound states with a step to take -/

/-- A LOCKED trunk with an ACTIVE record, a delivered cell, a record in the log, a frame in port B's queue and a slot
boundary to come. -/
def busy : State :=
  { locked (withRecord active) (.data 0) with
    inboundA := [⟨0, 6, 1003, [8, 9]⟩]
    log := { records := [recordOf 7], next := 8, lost := 0, waiting := [], turns := [], event := 0 }
    portB := { base.portB with present := true, timer := 3, queue := [[0x70, 1, 0]] }
    pending := [.slotBoundary (.boundary .now)] }

theorem busy_chan (c : Fin 48) : busy.chan c = if (0 : Fin 48) = c then active else Channel.closedValues :=
  withRecord_chan active c

/-- The slot boundary answers a next state. -/
theorem busy_steps : ∃ t, step busy = .next t := ⟨_, rfl⟩

theorem busy_recordsSound : busy.RecordsSound := by
  have h := withRecord_sound active active_fits rfl
  exact ⟨h.records, h.binding⟩


theorem busy_epochsFit (c : Fin 48) : (busy.chan c).EpochsFit := by
  rw [busy_chan]
  split
  · refine ⟨nofun, fun e h => ?_, nofun, nofun⟩
    obtain rfl := Option.some.inj h
    decide
  · exact ⟨nofun, nofun, nofun, nofun⟩

theorem witness_InboundQueuesStaySound :
    busy.InboundSound ∧ (∀ c, (busy.chan c).EpochsFit) ∧ busy.CellsInRange ∧ ∃ t, step busy = .next t := by
  refine ⟨fun q => ?_, busy_epochsFit, fun q => by cases q <;> decide, busy_steps⟩
  cases q
  · refine ⟨by decide, fun x hx => ?_⟩
    obtain rfl : x = ⟨0, 6, 1003, [8, 9]⟩ := List.mem_singleton.mp hx
    exact ⟨rfl, rfl⟩
  · exact ⟨by decide, fun x hx => nomatch hx⟩

theorem witness_FaultLogStaysSound : busy.log.Sound ∧ ∃ t, step busy = .next t := by
  refine ⟨⟨by decide, by decide, fun r hr => ?_, by decide, nofun⟩, busy_steps⟩
  obtain rfl : r = recordOf 7 := List.mem_singleton.mp hr
  decide

theorem witness_PartWideStateStaysInRange :
    busy.TrunkSound ∧ busy.ParamsSound ∧ (∀ p, (busy.link p).Sound) ∧ ∃ t, step busy = .next t := by
  refine ⟨⟨by decide, by decide, by decide, by decide, fun _ => rfl, by decide, by decide, fun f h => nomatch h⟩,
    ⟨by decide, by decide, by decide, by decide, by decide, by decide, by decide, by decide, by decide, by decide, by decide,
      by decide⟩, fun p => ?_, busy_steps⟩
  cases p <;> exact ⟨by decide, by decide, by decide, by decide, by decide, by decide⟩

theorem witness_RecordsStaySoundAndNoStepStops : busy.RecordsSound ∧ busy.ParamsSound :=
  ⟨busy_recordsSound, witness_PartWideStateStaysInRange.2.1⟩

theorem closedValues_inRange : Channel.closedValues.InRange := by
  refine ⟨nofun, by decide, nofun, by decide, by decide, nofun, by decide, nofun, nofun, nofun, by decide, by decide,
    by decide, by decide, nofun, by decide, by decide⟩

theorem active_inRange : active.InRange := by
  refine ⟨fun n h => ?_, by decide, nofun, by decide, by decide, fun e h => ?_, by decide, nofun, nofun, nofun, by decide,
    by decide, by decide, by decide, nofun, by decide, by decide⟩ <;>
    (obtain rfl := Option.some.inj h; decide)

theorem witness_WindowsAndSequencesStayWithinLimits :
    (∀ c, (busy.chan c).WindowsFit ∧ (busy.chan c).SequenceFits) ∧ ∃ t, step busy = .next t := by
  refine ⟨fun c => ?_, busy_steps⟩
  rw [busy_chan]
  split
  · refine ⟨⟨fun e h => ?_, fun p h => nomatch h⟩, by simp [Channel.SequenceFits, active, Channel.opened, Channel.closedValues]⟩
    obtain rfl := Option.some.inj h
    exact window_fits
  · exact ⟨⟨fun e h => (nomatch h), fun p h => (nomatch h)⟩, rfl⟩

theorem witness_EpochsAndFieldsStayInRange :
    busy.RecordsSound ∧ busy.ParamsSound ∧ (∀ c, (busy.chan c).EpochsFit ∧ (busy.chan c).InRange) ∧
      ∃ t, step busy = .next t := by
  refine ⟨busy_recordsSound, witness_PartWideStateStaysInRange.2.1, fun c => ⟨busy_epochsFit c, ?_⟩, busy_steps⟩
  rw [busy_chan]
  split
  · exact active_inRange
  · exact closedValues_inRange

theorem witness_OnlyPortKChangesTheMasterKeys :
    (∃ t, exec (.eraseMaster .k 3 0) base = .next t ∧ t.masters ≠ base.masters) ∧
      (∃ t, exec .powerOn base = .next t ∧ t.masters ≠ base.masters) :=
  ⟨⟨_, rfl, by decide⟩, ⟨_, rfl, by decide⟩⟩

end Sys2Proof.Tests
end

section
/-! PROOFS. The first tick of an OPENING or a CLOSING channel (R11, R14). A CLOSED, OPENING or CLOSING record has nothing in
flight, so a tick brings it no work but its own entry or end, silence and scoring; and in whatever order these come, its
entry or end leaves what the others keep. -/

namespace Sys2Proof.Machine

/-! ## The works of a list and one of them -/

/-- The works of a list take a state from P to Q when one of them does, and each of them keeps Q, and keeps P or reaches Q:
what a work that is certain to come leaves, in whatever order the works are taken. -/
theorem carryOut_reaches {P Q : State → Prop} {ws : List TickWork} {w : TickWork} (hw : w ∈ ws)
    (hreach : ∀ s, P s → Q (s.work w)) (hP : ∀ v ∈ ws, ∀ s, P s → P (s.work v) ∨ Q (s.work v))
    (hQ : ∀ v ∈ ws, ∀ s, Q s → Q (s.work v)) (s : State) (hs : P s) : Q (s.carryOut ws) := by
  suffices h : ∀ us, (∀ v ∈ us, v ∈ ws) → ∀ s, (P s ∧ w ∈ us) ∨ Q s → Q (s.carryOut us) from
    h ws (fun _ hv => hv) s (.inl ⟨hs, hw⟩)
  intro us
  induction us with
  | nil =>
    rintro - s (⟨-, hno⟩ | hq)
    · cases hno
    · exact hq
  | cons v us ih =>
    intro hsub s hs
    have hv : v ∈ ws := hsub v List.mem_cons_self
    refine ih (fun u hu => hsub u (List.mem_cons_of_mem v hu)) _ ?_
    rcases hs with ⟨hp, hmem⟩ | hq
    · rcases List.mem_cons.1 hmem with rfl | hmem
      · exact .inr (hreach s hp)
      · exact (hP v hv s hp).imp_left (⟨·, hmem⟩)
    · exact .inr (hQ v hv s hq)

/-- What each work of a list keeps, the list keeps. -/
theorem carryOut_keeps_of_mem {P : State → Prop} {ws : List TickWork} (hP : ∀ v ∈ ws, ∀ s, P s → P (s.work v))
    (s : State) (hs : P s) : P (s.carryOut ws) := by
  induction ws generalizing s with
  | nil => exact hs
  | cons v ws ih =>
    exact ih (fun u hu => hP u (List.mem_cons_of_mem v hu)) _ (hP v List.mem_cons_self s hs)

/-- A work that is not channel c's leaves the record of c. -/
theorem work_chan_of_other (s : State) {w : TickWork} {c : Fin 48} (h : workChannel w ≠ some c) :
    (s.work w).chan c = s.chan c := by
  cases hw : workChannel w with
  | some d => exact (work_only s hw).others c (fun e => h (e ▸ hw))
  | none =>
    cases w <;> cases hw
    exact presence_work_chan s _ c

/-! ## Records with nothing in flight -/

/-- A record with nothing in flight: not KEYING or ACTIVE, no entry that ages or is cut over, no renewal and no exchange
(R4, R10, R12). -/
structure Channel.Dormant (r : Channel) : Prop where
  untriggerable : r.triggerable = false
  current : r.current = none
  previous : r.previous = none
  renewal : r.renewal = .idle
  wanted : r.wanted = none
  holdOff : r.holdOff = 0
  offerTimer : r.offerTimer = none
  resyncTimer : r.resyncTimer = none
  pendingCells : r.pendingCells = []

theorem closedValues_dormant : Channel.closedValues.Dormant := by constructor <;> rfl

/-- A record that fits is dormant while CLOSED, OPENING or CLOSING (R2). -/
theorem Channel.Fits.dormant {r : Channel} (h : r.Fits)
    (hs : r.state = .closed ∨ r.state = .opening ∨ r.state = .closing) : r.Dormant := by
  have he := h.entries
  have hr := h.renewal
  have hx := h.exchange
  rcases hs with hs | hs | hs <;> simp only [Channel.EntriesFit, hs] at he
  · exact he ▸ closedValues_dormant
  all_goals
    obtain ⟨hcur, hprev, -, -, hren, hwant, hhold, hcells, -, -, hch⟩ := he
    simp only [Channel.RenewalFits, hren] at hr
    simp only [Channel.ExchangeFits, hch] at hx
    exact ⟨by simp [Channel.triggerable, hs], hcur, hprev, hren, hwant, hhold, hr.2.1, hx.1, hcells⟩

/-- The timers of a dormant record stand still at a tick, its silence timer apart. -/
theorem Channel.Dormant.tick_eq {r : Channel} (h : r.Dormant) (kind : TickKind) :
    ∃ q : Quality, r.tick kind = { r with quality := q } ∧ q.silenceRunning = r.quality.silenceRunning := by
  obtain ⟨-, hcur, hprev, -, -, hhold, hoffer, hresync, -⟩ := h
  cases r
  cases hcur
  cases hprev
  cases hhold
  cases hoffer
  cases hresync
  cases kind <;> exact ⟨_, rfl, rfl⟩

/-- Dormancy does not depend on the quality state. -/
theorem Channel.Dormant.with_quality {r : Channel} (h : r.Dormant) (q : Quality) : { r with quality := q }.Dormant :=
  ⟨h.untriggerable, h.current, h.previous, h.renewal, h.wanted, h.holdOff, h.offerTimer, h.resyncTimer, h.pendingCells⟩

theorem Channel.Dormant.tick {r : Channel} (h : r.Dormant) (kind : TickKind) : (r.tick kind).Dormant := by
  obtain ⟨q, hq, -⟩ := h.tick_eq kind
  rw [hq]
  exact h.with_quality q

@[simp] theorem tick_state (r : Channel) (kind : TickKind) : (r.tick kind).state = r.state := by cases kind <;> rfl

@[simp] theorem closedValues_tick (kind : TickKind) : Channel.closedValues.tick kind = Channel.closedValues := by
  cases kind <;> rfl

/-- What a tick brings to a dormant record: its entry to KEYING, its end, silence, and scoring. -/
theorem Channel.Dormant.works {s : State} {c : Fin 48} (h : (s.chan c).Dormant) {kind : TickKind} {period : Bool}
    {w : TickWork} (hw : w ∈ s.works kind period) (hc : workChannel w = some c) :
    (w = .keyingEntry c ∧ (s.chan c).state = .opening) ∨ (w = .closingEnd c ∧ (s.chan c).state = .closing) ∨
      (w = .silence c ∧ (s.chan c).quality.silenceRunning = true) ∨ (w = .score c ∧ (s.chan c).state ≠ .closed) := by
  rw [mem_works] at hw
  cases w <;> cases hc
  case keyingEntry => exact .inl ⟨rfl, hw⟩
  case closingEnd => exact .inr (.inl ⟨rfl, hw⟩)
  case ageTrigger => simp [Channel.ageReached, h.current] at hw
  case holdOffEnd => simp [Channel.startDue, h.untriggerable] at hw
  case offerExpiry => simp [h.offerTimer] at hw
  case resyncExpiry => simp [h.resyncTimer] at hw
  case cutoverExpiry => simp [Channel.cutoverDue, h.previous] at hw
  case silence =>
    obtain ⟨hrun, -⟩ := by simpa [Quality.silent] using hw.2
    exact .inr (.inr (.inl ⟨rfl, hrun⟩))
  case score => exact .inr (.inr (.inr ⟨rfl, hw.2⟩))

/-! ## What these works make of the record -/

/-- The end of CLOSING leaves closed values on a CLOSING record, and another record as it is (R14). -/
theorem closingEnd_chan (s : State) (c : Fin 48) :
    (s.closingEnd c).chan c = if (s.chan c).state = .closing then Channel.closedValues else s.chan c := by
  unfold State.closingEnd
  split <;> simp

/-- Silence leaves closed values when its count has reached the limit, and otherwise the record as it is (R148). -/
theorem judgeSilence_chan (s : State) (c : Fin 48) :
    (s.judgeSilence c).chan c =
      if (s.chan c).quality.silent s.qualityParams.silenceLimit then Channel.closedValues else s.chan c := by
  unfold State.judgeSilence
  split <;> simp

/-- Scoring leaves a CLOSED record, and of another changes the quality state, its silence timer apart (R141). -/
theorem scoreChannel_chan (s : State) (c : Fin 48) :
    ∃ q : Quality, (s.scoreChannel c).chan c = { s.chan c with quality := q } ∧
      q.silenceRunning = (s.chan c).quality.silenceRunning ∧ q.silence = (s.chan c).quality.silence ∧
      ((s.chan c).state = .closed → q = (s.chan c).quality) := by
  unfold State.scoreChannel
  by_cases hs : (s.chan c).state = .closed
  · rw [if_pos hs]
    exact ⟨_, rfl, rfl, rfl, fun _ => rfl⟩
  · rw [if_neg hs]
    let q := (s.chan c).quality.closePeriod
    refine ⟨{ q with low := lowFlagAfter s.qualityParams.low s.qualityParams.high q.smoothed q.low }, ?_, rfl, rfl,
      fun h => absurd h hs⟩
    dsimp only
    split_ifs <;> simp [q]

/-! ## The nonce source and the base entry -/

/-- A value drawn is never all zero (R100). -/
theorem nextNonce_ne_zero (s : State) : s.nextNonce ≠ 0 := by
  have hlt := (Config.nonceSeed s.nonceIndex).isLt
  intro h
  have h0 : ((Config.nonceSeed s.nonceIndex).val + 1) % 2 ^ 64 = 0 := by
    simpa [State.nextNonce, nonceAt] using congrArg BitVec.toNat h
  omega

/-- The base entry that entry to KEYING derives from a bound channel's LOADED slot (R89, R116). -/
theorem derivedBase_of_loaded {s : State} {c : Fin 48} {m : Fin 4} {key : Block} {check : BitVec 24} {shop : BitVec 32}
    (hm : (s.chan c).master = some m) (hl : s.masters[m] = .loaded key check) (hs : (s.chan c).shop = some shop) :
    s.derivedBase c = some (baseEntry key c shop) := by
  have hkey : s.masterKey (s.chan c) = some key := by simp only [State.masterKey, hm, hl]
  simp only [State.derivedBase, hkey, hs]

/-! ## The end of CLOSING (R14) -/

/-- No work that a tick can bring to a CLOSED or CLOSING record changes closed values. -/
theorem work_keeps_closedValues {s : State} {c : Fin 48} (h : s.chan c = Channel.closedValues) {w : TickWork}
    (hw : workChannel w = some c → w = .closingEnd c ∨ w = .silence c ∨ w = .score c) :
    (s.work w).chan c = Channel.closedValues := by
  by_cases hc : workChannel w = some c
  · rcases hw hc with rfl | rfl | rfl
    · simp only [State.work, closingEnd_chan, h, ite_self]
    · simp only [State.work, judgeSilence_chan, h, ite_self]
    · obtain ⟨q, hq, -, -, hclosed⟩ := scoreChannel_chan s c
      rw [State.work, hq, hclosed (by rw [h]; rfl), h]
  · rw [work_chan_of_other s hc, h]

/-- The end of CLOSING, closure by silence and scoring take a CLOSING record to closed values or leave it CLOSING. -/
theorem work_of_closing {s : State} {c : Fin 48} (h : (s.chan c).state = .closing) {w : TickWork}
    (hw : workChannel w = some c → w = .closingEnd c ∨ w = .silence c ∨ w = .score c) :
    ((s.work w).chan c).state = .closing ∨ (s.work w).chan c = Channel.closedValues := by
  by_cases hc : workChannel w = some c
  · rcases hw hc with rfl | rfl | rfl
    · exact .inr (by rw [State.work, closingEnd_chan, if_pos h])
    · rw [State.work, judgeSilence_chan]
      split
      · exact .inr rfl
      · exact .inl h
    · obtain ⟨q, hq, -⟩ := scoreChannel_chan s c
      exact .inl (by rw [State.work, hq]; exact h)
  · exact .inl (by rw [work_chan_of_other s hc, h])

/-- A channel that is CLOSED, or still CLOSING, has its closed values after the tick (R14). -/
theorem tick_chan_of_closing_or_closed {s : State} {c : Fin 48} (hf : (s.chan c).Fits)
    (hs : (s.chan c).state = .closing ∨ (s.chan c).state = .closed) (kind : TickKind) (order : List TickWork) :
    (s.tick kind order).chan c = Channel.closedValues := by
  have hd : ((s.advance kind).chan c).Dormant := by
    rw [advance_chan]
    exact (hf.dormant (by tauto)).tick kind
  have hstate : ((s.advance kind).chan c).state = (s.chan c).state := by simp
  have hdue : ∀ w ∈ inOrder order ((s.advance kind).works kind s.periodDue), workChannel w = some c →
      w = .closingEnd c ∨ w = .silence c ∨ w = .score c := by
    intro w hw hc
    rcases hd.works (mem_inOrder.1 hw) hc with ⟨-, ho⟩ | ⟨rfl, -⟩ | ⟨rfl, -⟩ | ⟨rfl, -⟩
    · rw [← hstate, ho] at hs
      rcases hs with h | h <;> cases h
    all_goals simp
  have hkeep : ∀ w ∈ inOrder order ((s.advance kind).works kind s.periodDue), ∀ t : State,
      t.chan c = Channel.closedValues → (t.work w).chan c = Channel.closedValues :=
    fun w hw t ht => work_keeps_closedValues ht (hdue w hw)
  rcases hs with hs | hs
  · exact carryOut_reaches (P := fun t => (t.chan c).state = .closing) (w := .closingEnd c)
      (mem_inOrder.2 ((mem_works ..).2 (hstate.trans hs)))
      (fun t ht => by rw [State.work, closingEnd_chan, if_pos ht])
      (fun w hw t ht => work_of_closing ht (hdue w hw)) hkeep _ (hstate.trans hs)
  · have hclosed : s.chan c = Channel.closedValues := by simpa only [Channel.EntriesFit, hs] using hf.entries
    exact carryOut_keeps_of_mem hkeep _ (by rw [advance_chan, hclosed, closedValues_tick])

/-! ## Entry to KEYING (R11, R116) -/

/-- The record x is what entry to KEYING makes of the record r, whatever its period counts: the base entry given, the
initial renewal offered with epoch 1 and a nonce that is not all zero, and the silence timer running from 0. -/
def Channel.EnteredKeying (r : Channel) (base : Option KeyEntry) (retries : Nat) (x : Channel) : Prop :=
  ∃ nonce : BitVec 64, nonce ≠ 0 ∧
    x =
      { r with
        state := .keying
        base := base
        wanted := some .initial
        renewal := .offered
        pendingEntry := some { epoch := 1, nonce := nonce, keys := none }
        pendingCells := [.offer 1 nonce]
        renewRetries := retries
        quality := { x.quality with silenceRunning := true, silence := 0 } }

/-- Entry to KEYING from a dormant record starts the initial renewal at once. -/
theorem keyingEntry_chan {s : State} {c : Fin 48} (h : (s.chan c).Dormant) (hs : (s.chan c).state = .opening) :
    (s.chan c).EnteredKeying (s.derivedBase c) s.renewalParams.retryLimit ((s.keyingEntry c).chan c) := by
  refine ⟨s.nextNonce, nextNonce_ne_zero s, ?_⟩
  have ht : ((s.modChan c (·.enterKeying (s.derivedBase c))).chan c).triggerable = true := by
    simp [Channel.enterKeying, Channel.triggerable]
  have hstart : (((s.modChan c (·.enterKeying (s.derivedBase c))).chan c).note .initial).startDue = true := by
    simp [Channel.enterKeying, Channel.note, Channel.startDue, Channel.triggerable, h.renewal, h.holdOff,
      h.wanted, Cause.forcing]
  rw [State.keyingEntry, if_pos hs, trigger_chan ht, if_pos hstart]
  simp [Channel.enterKeying, Channel.note, Channel.startRenewal, Channel.queueCell, Channel.newEpoch, enqueue, h.current,
    h.wanted, h.pendingCells, h.offerTimer, Cause.forcing, State.nextNonce]

/-- The state t holds the record that channel c has in s, its quality state apart, and the master keys and renewal
parameters of s. -/
def State.AwaitsKeying (s : State) (c : Fin 48) (t : State) : Prop :=
  (∃ q : Quality, t.chan c = { s.chan c with quality := q }) ∧ t.masters = s.masters ∧ t.renewalParams = s.renewalParams

/-- Scoring or a work of another channel leaves an OPENING record to its entry to KEYING. -/
theorem State.AwaitsKeying.work {s t : State} {c : Fin 48} (h : s.AwaitsKeying c t) {w : TickWork}
    (hw : workChannel w = some c → w = .score c) : s.AwaitsKeying c (t.work w) := by
  obtain ⟨⟨q, hq⟩, hmasters, hparams⟩ := h
  obtain ⟨-, -, hm, -, hp, -⟩ := work_blocks t w
  refine ⟨?_, hm.trans hmasters, hp.trans hparams⟩
  by_cases hc : workChannel w = some c
  · obtain ⟨q', hq', -⟩ := scoreChannel_chan t c
    rw [hw hc]
    exact ⟨q', by rw [State.work, hq', hq]⟩
  · exact ⟨q, by rw [work_chan_of_other t hc, hq]⟩

/-- Entry to KEYING from any state that the works before it have left. -/
theorem State.AwaitsKeying.keyingEntry {s t : State} {c : Fin 48} (h : s.AwaitsKeying c t) (hd : (s.chan c).Dormant)
    (hs : (s.chan c).state = .opening) :
    (s.chan c).EnteredKeying (s.derivedBase c) s.renewalParams.retryLimit ((t.keyingEntry c).chan c) := by
  obtain ⟨⟨q, hq⟩, hmasters, hparams⟩ := h
  have hbase : t.derivedBase c = s.derivedBase c := by
    simp only [State.derivedBase, State.masterKey, hq, hmasters]
  have hentered := keyingEntry_chan (s := t) (c := c) (by rw [hq]; exact hd.with_quality q) (by rw [hq]; exact hs)
  rw [hbase, hparams, hq] at hentered
  exact hentered

/-- Scoring, a second entry or a work of another channel leaves a channel that has entered KEYING as it is, its period
counts apart. -/
theorem Channel.EnteredKeying.work {r : Channel} {base : Option KeyEntry} {retries : Nat} {t : State} {c : Fin 48}
    (h : r.EnteredKeying base retries (t.chan c)) {w : TickWork}
    (hw : workChannel w = some c → w = .keyingEntry c ∨ w = .score c) :
    r.EnteredKeying base retries ((t.work w).chan c) := by
  by_cases hc : workChannel w = some c
  · obtain ⟨nonce, hne, hx⟩ := h
    rcases hw hc with rfl | rfl
    · have hkeying : (t.chan c).state ≠ .opening := by rw [hx]; simp
      rw [State.work, State.keyingEntry, if_neg hkeying]
      exact ⟨nonce, hne, hx⟩
    · obtain ⟨q, hq, hrun, hsil, -⟩ := scoreChannel_chan t c
      refine ⟨nonce, hne, ?_⟩
      have hrunning : q.silenceRunning = true := by rw [hrun, hx]
      have hzero : q.silence = 0 := by rw [hsil, hx]
      have hkept : { q with silenceRunning := true, silence := 0 } = q := by rw [← hrunning, ← hzero]
      simp only [State.work, hq, hkept]
      rw [hx]
  · rwa [work_chan_of_other t hc]

/-- A channel that is still OPENING, its silence timer not running, has entered KEYING after the tick (R11, R116). -/
theorem tick_chan_of_opening {s : State} {c : Fin 48} (hf : (s.chan c).Fits) (hs : (s.chan c).state = .opening)
    (hrun : (s.chan c).quality.silenceRunning = false) (kind : TickKind) (order : List TickWork) :
    (s.chan c).EnteredKeying (s.derivedBase c) s.renewalParams.retryLimit ((s.tick kind order).chan c) := by
  have hd : (s.chan c).Dormant := hf.dormant (by tauto)
  obtain ⟨q, htick, hq⟩ := hd.tick_eq kind
  rw [← advance_chan] at htick
  have hd' : ((s.advance kind).chan c).Dormant := by
    rw [advance_chan]
    exact hd.tick kind
  have hstate : ((s.advance kind).chan c).state = .opening := by rw [advance_chan, tick_state, hs]
  have hsilent : ((s.advance kind).chan c).quality.silenceRunning = false := by rw [htick]; exact hq.trans hrun
  have hdue : ∀ w ∈ inOrder order ((s.advance kind).works kind s.periodDue), workChannel w = some c →
      w = .keyingEntry c ∨ w = .score c := by
    intro w hw hc
    rcases hd'.works (mem_inOrder.1 hw) hc with ⟨rfl, -⟩ | ⟨-, hclosing⟩ | ⟨-, hon⟩ | ⟨rfl, -⟩
    · exact .inl rfl
    · exact nomatch hstate.symm.trans hclosing
    · exact nomatch hsilent.symm.trans hon
    · exact .inr rfl
  refine carryOut_reaches (P := s.AwaitsKeying c) (w := .keyingEntry c)
    (Q := fun t => (s.chan c).EnteredKeying (s.derivedBase c) s.renewalParams.retryLimit (t.chan c))
    (mem_inOrder.2 ((mem_works ..).2 hstate)) (fun t ht => ht.keyingEntry hd hs) (fun w hw t ht => ?_)
    (fun w hw t ht => ht.work (hdue w hw)) _ ⟨⟨q, htick⟩, rfl, rfl⟩
  by_cases he : w = .keyingEntry c
  · exact .inr (he ▸ ht.keyingEntry hd hs)
  · exact .inl (ht.work fun hc => (hdue w hw hc).resolve_left he)

/-- Settles O33: entry to KEYING and the end of CLOSING are reached in whatever order the tick's works are taken. -/
theorem ticksEndOpeningAndClosing : Obligations.TicksEndOpeningAndClosing := by
  intro s kind order c hsound
  have hf := hsound.records c
  refine ⟨fun hs => tick_chan_of_closing_or_closed hf hs kind order, ?_⟩
  intro m key check shop hs hrun hm hl hshop
  have h := tick_chan_of_opening hf hs hrun kind order
  rwa [derivedBase_of_loaded hm hl hshop] at h

end Sys2Proof.Machine
end

section
/-! PROOFS. Arrivals in DATA slots that are not checked further (R43 to R45, R62 to R65). An arrival is routed by the kept
entry; a cell in a DATA slot is then an IDLE cell, a traffic cell of an ACTIVE channel, or a header error. -/

namespace Sys2Proof.Machine

/-! ## The routing of an arrival (R43, R45) -/

/-- An arrival in a slot kept as DATA goes to the slot's channel. -/
theorem exec_dataSlotArrival {s : State} {c : Fin 48} (h : s.arrivesIn (.data c)) (arrival : Option Cell) :
    exec (.dataSlotArrival arrival) s = .next (s.dataArrival c arrival) := by
  obtain ⟨hreset, hkept⟩ := h
  have hrouted : s.dataSlotArrival arrival = s.dataArrival c arrival := by rw [State.dataSlotArrival, hkept]
  calc exec (.dataSlotArrival arrival) s
    _ = .next (if s.resetLine then s else s.dataSlotArrival arrival) := rfl
    _ = .next (s.dataArrival c arrival) := by simp [hreset, hrouted]

/-- In any slot not kept as DATA the event does not happen. -/
theorem exec_dataSlotArrival_elsewhere {s : State} (h : ∀ c, s.sequencer.kept ≠ some (.data c))
    (arrival : Option Cell) : exec (.dataSlotArrival arrival) s = .next s := by
  have hdiscarded : s.dataSlotArrival arrival = s := by
    unfold State.dataSlotArrival
    split
    next c hkept => exact absurd hkept (h c)
    next => rfl
  calc exec (.dataSlotArrival arrival) s
    _ = .next (if s.resetLine then s else s.dataSlotArrival arrival) := rfl
    _ = .next s := by rw [hdiscarded, ite_self]

/-- In any slot not kept as CONTROL the event does not happen. -/
theorem exec_controlSlotArrival_elsewhere {s : State} (h : s.sequencer.kept ≠ some .control) (arrival : Option Cell) :
    exec (.controlSlotArrival arrival) s = .next s := by
  have hdiscarded : s.controlSlotArrival arrival = s := by
    unfold State.controlSlotArrival
    split
    next hkept => exact absurd hkept h
    next => rfl
  calc exec (.controlSlotArrival arrival) s
    _ = .next (if s.resetLine then s else s.controlSlotArrival arrival) := rfl
    _ = .next s := by rw [hdiscarded, ite_self]

/-! ## Header errors (R62, R63) -/

theorem headerError_of_closed {s : State} {c : Fin 48} (h : (s.chan c).state = .closed) : s.headerError c = s := by
  rw [State.headerError, h]

theorem headerError_of_active {s : State} {c : Fin 48} (h : (s.chan c).state = .active) :
    s.headerError c = s.rejectE c := by
  rw [State.headerError, h]

/-- On an OPENING, KEYING or CLOSING channel a header error counts E only. -/
theorem headerError_of_between {s : State} {c : Fin 48} (hclosed : (s.chan c).state ≠ .closed)
    (hactive : (s.chan c).state ≠ .active) : s.headerError c = s.modChan c Channel.countE := by
  unfold State.headerError
  split
  next h => exact absurd h hclosed
  next h => exact absurd h hactive
  all_goals rfl

/-! ## What a cell in a DATA slot is taken as (R43, R62 to R64) -/

theorem dataArrival_idle (s : State) (c : Fin 48) {cell : Cell} (h : cellKindOf cell = some .idle) :
    s.dataArrival c (some cell) = s.idleArrival c := by
  simp only [State.dataArrival, h]

theorem dataArrival_of_traffic_kind (s : State) (c : Fin 48) {k : CellKind} {cell : Cell} (hk : k = .data ∨ k = .pad)
    (h : cellKindOf cell = some k) : s.dataArrival c (some cell) = s.acceptTraffic c k cell := by
  obtain rfl | rfl := hk <;> simp only [State.dataArrival, h]

/-- A traffic cell for an ACTIVE channel is withheld in HUNT and QUARANTINE, and goes on to acceptance otherwise. -/
theorem dataArrival_of_isTraffic {s : State} {c : Fin 48} {k : CellKind} {cell : Cell}
    (hactive : (s.chan c).state = .active) (h : isTraffic k c cell) :
    s.dataArrival c (some cell) =
      if (s.chan c).sync.placing then s.acceptSound c k cell else s.modChan c Channel.countWithheld := by
  obtain ⟨hk, hkind, hsound, hchannel⟩ := h
  rw [dataArrival_of_traffic_kind s c hk hkind, State.acceptTraffic, if_neg (not_not.2 hactive),
    if_neg (by simp [slotMatch, hsound, hchannel])]
  cases (s.chan c).sync.placing <;> rfl

/-- A cell other than IDLE that is no traffic cell of an ACTIVE channel is a header error. -/
theorem dataArrival_eq_headerError {s : State} {c : Fin 48} {cell : Cell} (hidle : cellKindOf cell ≠ some .idle)
    (h : (s.chan c).state = .active → ∀ k, ¬ isTraffic k c cell) :
    s.dataArrival c (some cell) = s.headerError c := by
  have traffic (k : CellKind) (hk : k = .data ∨ k = .pad) (hkind : cellKindOf cell = some k) :
      s.acceptTraffic c k cell = s.headerError c := by
    unfold State.acceptTraffic
    split
    · rfl
    next hactive =>
      refine if_pos ?_
      have hno := h (not_not.1 hactive) k
      simp only [isTraffic, hk, hkind, true_and] at hno
      simpa [slotMatch, imp_iff_not_or] using hno
  simp only [State.dataArrival]
  split
  next hkind => exact absurd hkind hidle
  next hkind => exact traffic .data (.inl rfl) hkind
  next hkind => exact traffic .pad (.inr rfl) hkind
  next => rfl

/-! ## The entry a tag selects (R65) -/

/-- A tag selects no entry exactly when its epoch is unknown. -/
theorem select_eq_none_iff (r : Channel) (tag : BitVec 2) : r.select tag = none ↔ r.UnknownEpoch tag := by
  simp only [Channel.select, Channel.UnknownEpoch]
  split
  next e he =>
    obtain ⟨hcurrent, htag⟩ := Option.filter_eq_some_iff.1 he
    exact iff_of_false (by simp) fun hunknown => hunknown.1 e hcurrent (of_decide_eq_true htag)
  next hnone =>
    have hcurrent : ∀ e, r.current = some e → epochTag e.key.epoch ≠ tag := by
      simpa [Option.filter_eq_none_iff] using hnone
    rw [and_iff_right hcurrent]
    simp [Option.filter_eq_none_iff]

theorem acceptSound_of_unknownEpoch {s : State} {c : Fin 48} {k : CellKind} {cell : Cell}
    (h : (s.chan c).UnknownEpoch (headerEpochTag cell.header)) : s.acceptSound c k cell = s.rejectE c := by
  simp only [State.acceptSound, (select_eq_none_iff ..).2 h]

/-- Settles O38: each clause is one of the ways above in which a cell is taken, with its count. -/
theorem dataSlotArrivalsAreCounted : Obligations.DataSlotArrivalsAreCounted := by
  intro s hreset
  refine ⟨fun arrival hkept => ?_, fun c hkept => ?_⟩
  · exact ⟨exec_dataSlotArrival_elsewhere (by rcases hkept with h | h <;> simp [h]) arrival,
      exec_controlSlotArrival_elsewhere (by rcases hkept with h | h <;> simp [h]) arrival⟩
  have hexec := exec_dataSlotArrival ⟨hreset, hkept⟩
  refine ⟨hexec none, fun cell hidle => ?_, fun cell hidle => ⟨fun hclosed => ?_, fun hclosed hactive => ?_,
    fun hactive hno => ?_, fun k hactive htraffic => ⟨fun hsync => ?_, fun hsync hepoch => ?_⟩⟩⟩
  · rw [hexec, dataArrival_idle s c hidle]
    rfl
  · rw [hexec, dataArrival_eq_headerError hidle (by simp [hclosed]), headerError_of_closed hclosed]
  · rw [hexec, dataArrival_eq_headerError hidle (absurd · hactive), headerError_of_between hclosed hactive]
    rfl
  · rw [hexec, dataArrival_eq_headerError hidle fun _ => hno, headerError_of_active hactive]
    rfl
  · have hplacing : ¬ (s.chan c).sync.placing := by rcases hsync with h | h <;> simp [h, SyncState.placing]
    rw [hexec, dataArrival_of_isTraffic hactive htraffic, if_neg hplacing]
    rfl
  · have hplacing : (s.chan c).sync.placing := by rcases hsync with h | h <;> simp [h, SyncState.placing]
    rw [hexec, dataArrival_of_isTraffic hactive htraffic, if_pos hplacing, acceptSound_of_unknownEpoch hepoch]
    rfl

end Sys2Proof.Machine
end

section
/-! PROOFS. TAKE (R84). A service port's command that is judged by its body answers with what the body gives; TAKE's
body looks at the head of the calling port's inbound queue. -/

namespace Sys2Proof.Machine

/-! ## Takings by the port's right to the command (R170, R171) -/

/-- A command that the port's list does not hold is answered PRIVILEGE and changes nothing. -/
theorem taking_privilege {s : State} {p : Port} {tag code : Byte} {params : List Byte} (body : State → Answer)
    (h : s.canTake p (commandFrame code tag params) = true) (hports : admittedOn p code = false) :
    s.taking p tag code params body = s.answered p tag code .privilege [] := by
  rw [taking_of body h, judge_privilege body hports]
  rfl

/-- Out of startup, an admitted command of a service port is answered with what its body gives on the state after the
taking. -/
theorem taking_fromService {s : State} {q : Service} {tag code : Byte} {params : List Byte}
    (body : Service → State → Answer) (h : s.canTake q.port (commandFrame code tag params) = true)
    (hports : admittedOn q.port code = true) (hstartup : s.startup = false) :
    s.taking q.port tag code params (fromService q.port body) =
      (body q (s.taken q.port)).state.respond q.port tag code (body q (s.taken q.port)).completion
        (body q (s.taken q.port)).results := by
  have hjudged : (s.taken q.port).judge q.port code (fromService q.port body) = body q (s.taken q.port) := by
    rw [judge_body _ hports (.inl (by simpa using hstartup)), fromService_port]
  rw [taking_of _ h, hjudged]

/-! ## TAKE's body and results -/

theorem admittedOn_take (q : Service) : admittedOn q.port 0x20 = true := by cases q <;> rfl

theorem takeBody_of_empty {q : Service} {s : State} (h : s.inbound q = []) : takeBody q s = refuse .empty s := by
  simp only [takeBody, h]

theorem takeBody_of_cons {q : Service} {s : State} {x : Delivered} {rest : List Delivered}
    (h : s.inbound q = x :: rest) :
    takeBody q s = { completion := .done, results := x.bytes rest.length, state := s.setInbound q rest } := by
  simp only [takeBody, h]

theorem u8_eq (n : Nat) : u8 n = [BitVec.ofNat 8 n] := by simp [u8, bigEndian]

/-- TAKE's results byte by byte: channel, epoch, sequence, length, data, cells left. -/
theorem Delivered.bytes_eq (x : Delivered) (left : Nat) :
    x.bytes left = BitVec.ofNat 8 x.channel.val :: x.epoch :: bigEndian 3 x.sequence ++
      BitVec.ofNat 8 x.data.length :: x.data ++ [BitVec.ofNat 8 left] := by
  simp [Delivered.bytes, u8_eq, u24]

/-! ## TAKE as a command -/

theorem exec_take (p : Port) (tag : Byte) (s : State) :
    exec (.take p tag) s = .next (s.taking p tag 0x20 [] (fromService p takeBody)) := rfl

theorem exec_take_of_empty {s : State} {q : Service} {tag : Byte} (hstartup : s.startup = false)
    (h : s.canTake q.port (commandFrame 0x20 tag []) = true) (hempty : s.inbound q = []) :
    exec (.take q.port tag) s = .next (s.answered q.port tag 0x20 .empty []) := by
  have hbody : takeBody q (s.taken q.port) = refuse .empty (s.taken q.port) := takeBody_of_empty (by simpa using hempty)
  rw [exec_take, taking_fromService takeBody h (admittedOn_take q) hstartup, hbody]
  rfl

theorem exec_take_of_cons {s : State} {q : Service} {tag : Byte} {x : Delivered} {rest : List Delivered}
    (hstartup : s.startup = false) (h : s.canTake q.port (commandFrame 0x20 tag []) = true)
    (hcells : s.inbound q = x :: rest) :
    exec (.take q.port tag) s =
      .next (((s.taken q.port).setInbound q rest).respond q.port tag 0x20 .done (x.bytes rest.length)) := by
  have hcells' : (s.taken q.port).inbound q = x :: rest := by simpa using hcells
  rw [exec_take, taking_fromService takeBody h (admittedOn_take q) hstartup, takeBody_of_cons hcells']

/-- The INBOUND condition of a service port reports the queue that its TAKE serves (R82, R178). -/
theorem inboundCondition_port_iff (s : State) (q : Service) :
    s.inboundCondition q.port = true ↔ s.inbound q ≠ [] := by
  simp [State.inboundCondition]

/-- Settles O22: by the head of the calling port's queue; port K falls to the judgement of privilege. -/
theorem takeRemovesTheOldestCell : Obligations.TakeRemovesTheOldestCell := by
  refine ⟨fun s q tag hstartup h => ⟨exec_take_of_empty hstartup h, fun x rest hcells => ?_⟩, fun s tag h => ?_,
    inboundCondition_port_iff⟩
  · rw [exec_take_of_cons hstartup h hcells, Delivered.bytes_eq]
  · rw [exec_take, taking_privilege _ h rfl]

end Sys2Proof.Machine
end

section
/-! PROOFS. The master key store's commands (chapter 5). LOAD_MASTER and ERASE_MASTER answer with what their bodies give
on the state after the taking; an erased slot closes its bound channels one after another, and each closure leaves the
records and the delivered cells of the others. -/

namespace Sys2Proof.Machine

/-! ## Takings that are judged by their command's body -/

/-- Out of startup, a command admitted on its port is answered with what its body gives on the state after the taking. -/
theorem taking_of_admitted {s : State} {p : Port} {tag code : Byte} {params : List Byte} (body : State → Answer)
    (h : s.canTake p (commandFrame code tag params) = true) (hports : admittedOn p code = true)
    (hstartup : s.startup = false) :
    s.taking p tag code params body =
      (body (s.taken p)).state.respond p tag code (body (s.taken p)).completion (body (s.taken p)).results := by
  rw [taking_of body h, judge_body body hports (.inl (by simpa using hstartup))]

/-! ## Slots and their bound channels (R87, R88) -/

theorem masterOf_of_le {slot : Byte} (h : 4 ≤ slot.toNat) : masterOf slot = none := by
  simp [masterOf, Nat.not_lt.2 h]

theorem masterOf_of_eq {slot : Byte} {m : Fin 4} (h : slot.toNat = m.val) : masterOf slot = some m := by
  simp [masterOf, h]

theorem masterEmpty_iff {s : State} {m : Fin 4} : s.masterEmpty m = true ↔ s.masters[m] = .empty := by
  unfold State.masterEmpty
  split <;> simp [*]

theorem masterEmpty_eq_false_iff {s : State} {m : Fin 4} : s.masterEmpty m = false ↔ s.masters[m] ≠ .empty := by
  rw [← Bool.not_eq_true, masterEmpty_iff]

theorem boundTo_eq (r : Channel) (m : Fin 4) : r.boundTo m = decide (r.state ≠ .closed ∧ r.master = some m) := by
  simp [Channel.boundTo]

theorem boundChannels_eq (s : State) (m : Fin 4) :
    s.boundChannels m =
      (List.finRange 48).filter (fun c => decide ((s.chan c).state ≠ .closed ∧ (s.chan c).master = some m)) := by
  simp only [State.boundChannels, boundTo_eq]

theorem mem_boundChannels {s : State} {m : Fin 4} {c : Fin 48} :
    c ∈ s.boundChannels m ↔ (s.chan c).state ≠ .closed ∧ (s.chan c).master = some m := by
  simp [boundChannels_eq]

theorem bindingCount_pos_iff {s : State} {m : Fin 4} :
    0 < s.bindingCount m ↔ ∃ c, (s.chan c).state ≠ .closed ∧ (s.chan c).master = some m := by
  simp only [State.bindingCount, List.length_pos_iff_exists_mem, mem_boundChannels]

@[simp] theorem taken_boundChannels (s : State) (p : Port) (m : Fin 4) :
    (s.taken p).boundChannels m = s.boundChannels m := by simp [State.boundChannels]

@[simp] theorem taken_bindingCount (s : State) (p : Port) (m : Fin 4) :
    (s.taken p).bindingCount m = s.bindingCount m := by simp [State.bindingCount]

/-! ## LOAD_MASTER (R90, R91) -/

/-- The check value is the upper 24 bits of the enciphered zero block (R60). -/
theorem checkValue_eq (key : Block) : checkValue key = (Config.blockPerm key 0).extractLsb' 104 24 := rfl

theorem loadMasterBody_of_range {slot : Byte} (key : Block) (s : State) (h : masterOf slot = none) :
    loadMasterBody slot key s = refuse .range s := by simp only [loadMasterBody, h]

theorem loadMasterBody_of_inUse {slot : Byte} {m : Fin 4} (key : Block) {s : State} (h : masterOf slot = some m)
    (hloaded : s.masters[m] ≠ .empty) (hbound : 0 < s.bindingCount m) :
    loadMasterBody slot key s = refuse .inUse s := by
  simp [loadMasterBody, h, masterEmpty_eq_false_iff.2 hloaded, hbound]

theorem loadMasterBody_of_free {slot : Byte} {m : Fin 4} (key : Block) {s : State} (h : masterOf slot = some m)
    (hfree : ¬ 0 < s.bindingCount m ∨ s.masters[m] = .empty) :
    loadMasterBody slot key s =
      { completion := .done
        results := s.masters[m].byte :: bigEndian 3 (checkValue key).toNat
        state := s.setMaster m (.loaded key (checkValue key)) } := by
  have hno : (!s.masterEmpty m && decide (0 < s.bindingCount m)) = false := by
    rcases hfree with hcount | hempty
    · simp [hcount]
    · simp [masterEmpty_iff.2 hempty]
  simp only [loadMasterBody, h, hno, Bool.false_eq_true, if_false, u24]

/-- LOAD_MASTER on port K, out of startup, is answered with what its body gives. -/
theorem exec_loadMaster {s : State} {tag slot : Byte} {key : Block} (hstartup : s.startup = false)
    (h : s.canTake .k (commandFrame 0x30 tag (slot :: bigEndian 16 key.toNat)) = true) :
    exec (.loadMaster .k tag slot key) s =
      .next ((loadMasterBody slot key (s.taken .k)).state.respond .k tag 0x30
        (loadMasterBody slot key (s.taken .k)).completion (loadMasterBody slot key (s.taken .k)).results) :=
  congrArg Host.Outcome.next (taking_of_admitted (loadMasterBody slot key) h rfl hstartup)

/-- Settles O20: by the branches of LOAD_MASTER's body, whose binding count is positive exactly when a channel is bound. -/
theorem loadMasterLoadsTheSlot : Obligations.LoadMasterLoadsTheSlot := by
  intro s tag slot key hstartup h
  refine ⟨fun hrange => ?_, fun m hm => ⟨fun hbound hloaded => ?_, fun hfree => ?_⟩⟩
  · rw [exec_loadMaster hstartup h, loadMasterBody_of_range key _ (masterOf_of_le hrange)]
    rfl
  · have hcount : 0 < (s.taken .k).bindingCount m := by simpa using bindingCount_pos_iff.2 hbound
    rw [exec_loadMaster hstartup h, loadMasterBody_of_inUse key (masterOf_of_eq hm) (by simpa using hloaded) hcount]
    rfl
  · have hfree' : ¬ 0 < (s.taken .k).bindingCount m ∨ (s.taken .k).masters[m] = .empty := by
      refine hfree.imp (fun hnone hpos => ?_) (by simpa using ·)
      obtain ⟨c, hopen, hmaster⟩ := bindingCount_pos_iff.1 (by simpa using hpos)
      exact (hnone c).elim hopen (· hmaster)
    rw [exec_loadMaster hstartup h, loadMasterBody_of_free key (masterOf_of_eq hm) hfree', checkValue_eq]
    rfl

/-! ## Immediate closures (R12, R15, R93 step 1) -/

/-- Nothing but the channel records and the inbound queues differs between two states. -/
def State.OnlyRecordsAndQueues (s t : State) : Prop :=
  ∃ channels inboundA inboundB, t = { s with channels := channels, inboundA := inboundA, inboundB := inboundB }

theorem State.OnlyRecordsAndQueues.trans {s t u : State} (h : s.OnlyRecordsAndQueues t)
    (k : t.OnlyRecordsAndQueues u) : s.OnlyRecordsAndQueues u := by
  obtain ⟨_, _, _, rfl⟩ := h
  obtain ⟨channels, a, b, rfl⟩ := k
  exact ⟨channels, a, b, rfl⟩

theorem setInbound_onlyRecordsAndQueues (s : State) (q : Service) (cells : List Delivered) :
    s.OnlyRecordsAndQueues (s.setInbound q cells) := by
  cases q <;> exact ⟨_, _, _, rfl⟩

theorem closeNow_onlyRecordsAndQueues (s : State) (c : Fin 48) : s.OnlyRecordsAndQueues (s.closeNow c) := by
  have hqueues : s.OnlyRecordsAndQueues (s.removeInbound c) := by
    unfold State.removeInbound
    split
    · exact setInbound_onlyRecordsAndQueues s _ _
    · exact ⟨_, _, _, rfl⟩
  exact hqueues.trans ⟨_, _, _, rfl⟩

/-- A closure removes a channel's cells from its serving port's queue, and no other cell (R12 step 1). -/
theorem closeNow_inbound (s : State) (c : Fin 48) (q : Service) :
    (s.closeNow c).inbound q =
      (s.inbound q).filter (fun x => !(decide (x.channel = c) && decide ((s.chan x.channel).serving = some q))) := by
  have hremove : (s.closeNow c).inbound q = (s.removeInbound c).inbound q := by simp [State.closeNow, State.teardown]
  rw [hremove]
  unfold State.removeInbound
  split
  next o ho =>
    rw [inbound_setInbound]
    split
    next hoq =>
      subst hoq
      refine List.filter_congr fun x _ => ?_
      by_cases hx : x.channel = c <;> simp [hx, ho]
    next hoq =>
      refine (List.filter_eq_self.2 fun x _ => ?_).symm
      by_cases hx : x.channel = c <;> simp [hx, ho, hoq]
  next ho =>
    refine (List.filter_eq_self.2 fun x _ => ?_).symm
    by_cases hx : x.channel = c <;> simp [hx, ho]

@[simp] theorem closeAll_nil (s : State) : s.closeAll [] = s := rfl

@[simp] theorem closeAll_cons (s : State) (c : Fin 48) (cs : List (Fin 48)) :
    s.closeAll (c :: cs) = (s.closeNow c).closeAll cs := rfl

theorem closeAll_onlyRecordsAndQueues (s : State) (cs : List (Fin 48)) : s.OnlyRecordsAndQueues (s.closeAll cs) := by
  induction cs generalizing s with
  | nil => exact ⟨_, _, _, rfl⟩
  | cons c cs ih => exact (closeNow_onlyRecordsAndQueues s c).trans (ih _)

theorem closeAll_chan (s : State) (cs : List (Fin 48)) (d : Fin 48) :
    (s.closeAll cs).chan d = if d ∈ cs then Channel.closedValues else s.chan d := by
  induction cs generalizing s with
  | nil => simp
  | cons c cs ih =>
    rw [closeAll_cons, ih]
    by_cases hd : c = d
    · subst hd; simp
    · simp [(closeNow_only s c).others d hd, Ne.symm hd]

/-- The closures of a list remove each listed channel's cells from its serving port's queue: a closure leaves the serving
ports of the channels still to be closed. -/
theorem closeAll_inbound (s : State) (cs : List (Fin 48)) (q : Service) :
    (s.closeAll cs).inbound q =
      (s.inbound q).filter (fun x => !(decide (x.channel ∈ cs) && decide ((s.chan x.channel).serving = some q))) := by
  induction cs generalizing s with
  | nil => simp
  | cons c cs ih =>
    rw [closeAll_cons, ih, closeNow_inbound, List.filter_filter]
    refine List.filter_congr fun x _ => ?_
    by_cases hx : c = x.channel
    · subst hx; simp [Channel.closedValues]
    · simp [(closeNow_only s c).others x.channel hx, Ne.symm hx]

/-! ## ERASE_MASTER (R92 to R94) -/

theorem eraseMasterBody_of_range {slot : Byte} (s : State) (h : masterOf slot = none) :
    eraseMasterBody slot s = refuse .range s := by simp only [eraseMasterBody, h]

theorem eraseMasterBody_of_empty {slot : Byte} {m : Fin 4} {s : State} (h : masterOf slot = some m)
    (hempty : s.masters[m] = .empty) :
    eraseMasterBody slot s = { completion := .done, results := [0, 0], state := s } := by
  simp [eraseMasterBody, h, masterEmpty_iff.2 hempty]

theorem eraseMasterBody_of_loaded {slot : Byte} {m : Fin 4} {s : State} (h : masterOf slot = some m)
    (hloaded : s.masters[m] ≠ .empty) :
    eraseMasterBody slot s =
      { completion := .done, results := [1, BitVec.ofNat 8 (s.bindingCount m)], state := s.eraseSlot m } := by
  simp [eraseMasterBody, h, masterEmpty_eq_false_iff.2 hloaded, u8_eq]

/-- ERASE_MASTER on port K, out of startup, is answered with what its body gives. -/
theorem exec_eraseMaster {s : State} {tag slot : Byte} (hstartup : s.startup = false)
    (h : s.canTake .k (commandFrame 0x31 tag [slot]) = true) :
    exec (.eraseMaster .k tag slot) s =
      .next ((eraseMasterBody slot (s.taken .k)).state.respond .k tag 0x31
        (eraseMasterBody slot (s.taken .k)).completion (eraseMasterBody slot (s.taken .k)).results) :=
  congrArg Host.Outcome.next (taking_of_admitted (eraseMasterBody slot) h rfl hstartup)

theorem eraseSlot_chan (s : State) (m : Fin 4) (c : Fin 48) :
    (s.eraseSlot m).chan c =
      if (s.chan c).state ≠ .closed ∧ (s.chan c).master = some m then Channel.closedValues else s.chan c := by
  simp only [State.eraseSlot, raise_chan, setMaster_chan, closeAll_chan, mem_boundChannels]

theorem eraseSlot_inbound (s : State) (m : Fin 4) (q : Service) :
    (s.eraseSlot m).inbound q = (s.inbound q).filter (fun x =>
      !(decide ((s.chan x.channel).state ≠ .closed ∧ (s.chan x.channel).master = some m) &&
        decide ((s.chan x.channel).serving = some q))) := by
  simp only [State.eraseSlot, raise_inbound, setMaster_inbound, closeAll_inbound, mem_boundChannels]

/-- An erased slot is EMPTY, its one fault is raised as on the state before, and nothing changes but records, queues,
slots and log. -/
theorem eraseSlot_rest (s : State) (m : Fin 4) :
    (s.eraseSlot m).masters = s.masters.set m .empty ∧
      (s.eraseSlot m).log = (s.raise .masterErased none (some .k) (m.val * 256 + s.bindingCount m)).log ∧
      s.eraseSlot m = { s with
        channels := (s.eraseSlot m).channels, masters := (s.eraseSlot m).masters,
        inboundA := (s.eraseSlot m).inboundA, inboundB := (s.eraseSlot m).inboundB, log := (s.eraseSlot m).log } := by
  unfold State.eraseSlot
  obtain ⟨channels, a, b, hclosed⟩ := closeAll_onlyRecordsAndQueues s (s.boundChannels m)
  rw [hclosed]
  exact ⟨rfl, rfl, rfl⟩

/-- Settles O21: by the branches of ERASE_MASTER's body; the closures of an erased slot by induction on the bound
channels. -/
theorem eraseMasterClosesBoundChannels : Obligations.EraseMasterClosesBoundChannels := by
  intro s tag slot hstartup h
  refine ⟨fun hrange => ?_, fun m hm => ⟨fun hempty => ?_, fun hloaded => ?_⟩⟩
  · rw [exec_eraseMaster hstartup h, eraseMasterBody_of_range _ (masterOf_of_le hrange)]
    rfl
  · rw [exec_eraseMaster hstartup h, eraseMasterBody_of_empty (masterOf_of_eq hm) (by simpa using hempty)]
    rfl
  · intro bound n own
    have hn : (s.taken .k).bindingCount m = n := by
      rw [taken_bindingCount, State.bindingCount, boundChannels_eq]
    obtain ⟨hmasters, hlog, hrest⟩ := eraseSlot_rest (s.taken .k) m
    refine ⟨((s.taken .k).eraseSlot m).respond .k tag 0x31 .done [1, BitVec.ofNat 8 n], ?_, fun c => ?_, hmasters,
      fun q => ?_, hn ▸ hlog, congrArg (·.respond .k tag 0x31 .done [1, BitVec.ofNat 8 n]) hrest⟩
    · rw [exec_eraseMaster hstartup h, eraseMasterBody_of_loaded (masterOf_of_eq hm) (by simpa using hloaded), hn]
    · simp [eraseSlot_chan, bound]
    · simp [eraseSlot_inbound, bound, own]

end Sys2Proof.Machine
end

section
/-! PROOFS. Triggers and the start of a renewal (R98, R100, R101, R103, R105), and queueing (R125). A trigger notes its
cause on the record; whether a renewal then starts is R103's condition on the noted record. -/

namespace Sys2Proof.Machine

/-! ## Queueing (R125) -/

/-- A queued cell takes the place of its family's entry. -/
theorem enqueue_replaces {x y : ControlCell} {front back : List ControlCell} (hfront : ∀ z ∈ front, z.family ≠ x.family)
    (hback : ∀ z ∈ back, z.family ≠ x.family) (hy : y.family = x.family) :
    enqueue x (front ++ y :: back) = front ++ x :: back := by
  have hkept : ∀ list : List ControlCell, (∀ z ∈ list, z.family ≠ x.family) →
      list.map (fun z => if z.family = x.family then x else z) = list := fun list h =>
    (List.map_congr_left fun z hz => if_neg (h z hz)).trans (List.map_id' list)
  rw [enqueue, if_pos (by simp [hy]), List.map_append, List.map_cons, hkept front hfront, hkept back hback, if_pos hy]

/-- A cell of an empty family joins the tail of the list. -/
theorem enqueue_joins_tail {x : ControlCell} {list : List ControlCell} (h : ∀ z ∈ list, z.family ≠ x.family) :
    enqueue x list = list ++ [x] := by
  rw [enqueue, if_neg (by simpa using h)]

/-! ## The flag (R101) -/

theorem triggerable_iff (r : Channel) : r.triggerable = true ↔ r.state = .keying ∨ r.state = .active := by
  simp [Channel.triggerable]

theorem forcing_iff (k : Cause) : k.forcing = true ↔ k = .command ∨ k = .resync ∨ k = .storm := by
  cases k <;> simp [Cause.forcing]

/-- A noted record is the record with a cause on its flag: the forcing cause itself, or the cause the flag has already. -/
theorem note_eq (r : Channel) (k : Cause) :
    r.note k =
      { r with wanted := some (if k = .command ∨ k = .resync ∨ k = .storm then k else r.wanted.getD k) } := by
  simp only [Channel.note, forcing_iff]
  split <;> rfl

/-! ## The start of a renewal (R103, R105) -/

/-- R103's conditions on a triggerable record with a cause on its flag. -/
theorem startDue_iff {r : Channel} {k : Cause} (ht : r.triggerable = true) (hk : r.wanted = some k) :
    r.startDue = true ↔ r.renewal = .idle ∧ (r.holdOff = 0 ∨ k = .command ∨ k = .resync ∨ k = .storm) := by
  simp [Channel.startDue, ht, hk, forcing_iff]

/-- The whole state after a trigger that starts a renewal: the noted record starts it, and one nonce is drawn. -/
theorem trigger_of_startDue {s : State} {c : Fin 48} {k : Cause} (ht : (s.chan c).triggerable = true)
    (h : ((s.chan c).note k).startDue = true) :
    s.trigger c k =
      (s.setChan c (((s.chan c).note k).startRenewal s.renewalParams.retryLimit s.nextNonce)).afterDraw := by
  rw [State.trigger, if_pos ht, State.startIfDue, if_pos (by simpa using h), modChan_modChan]
  rfl

/-- The whole state after a trigger that starts no renewal: the record is noted. -/
theorem trigger_of_not_startDue {s : State} {c : Fin 48} {k : Cause} (ht : (s.chan c).triggerable = true)
    (h : ¬ ((s.chan c).note k).startDue = true) : s.trigger c k = s.setChan c ((s.chan c).note k) := by
  rw [State.trigger, if_pos ht, State.startIfDue, if_neg (by simpa using h)]
  rfl

/-- Settles O46: by R101's reach and R103's conditions on the noted record; queueing by whether the family has an
entry. -/
theorem triggersStartRenewals : Obligations.TriggersStartRenewals := by
  intro s c k r forcing cause noted epoch
  have hnote : r.note k = noted := note_eq r k
  refine ⟨fun hkeying hactive => ?_, fun hstate => ?_, fun x front back y hfront hback =>
    ⟨enqueue_replaces hfront hback, fun _ => enqueue_joins_tail hfront⟩⟩
  · exact trigger_of_not (by simpa [Channel.triggerable] using ⟨hkeying, hactive⟩)
  · have ht : r.triggerable = true := (triggerable_iff r).2 hstate
    have hdue : (r.note k).startDue = true ↔ r.renewal = .idle ∧ (r.holdOff = 0 ∨ forcing cause) := by
      rw [hnote]
      exact startDue_iff (r := noted) ht rfl
    refine ⟨fun hidle hstart => ⟨nextNonce_ne_zero s, ?_⟩, fun hno => ?_⟩
    · rw [trigger_of_startDue ht (hdue.2 ⟨hidle, hstart⟩), hnote]
      rfl
    · rw [trigger_of_not_startDue ht (by rw [hdue]; tauto), hnote]

end Sys2Proof.Machine
end

section
/-! PROOFS. The load event of a CONTROL slot that sends a SWITCH (R112, R113, R127, R128). The arbiter's scan visits the
channels in the order of their distance from the last channel served, so the channel that the statement describes is the
one chosen; the effect of the SWITCH on its record is the key installation. -/

namespace Sys2Proof.Machine

/-! ## The arbiter's choice (R127) -/

theorem mem_scanOrder (last c : Fin 48) : c ∈ scanOrder last := by
  simp [scanOrder, lt_or_ge]

/-- The scan visits the channels in the order of their distance. -/
theorem scanOrder_sorted (last : Fin 48) :
    (scanOrder last).Pairwise (fun a b => scanDistance last a < scanDistance last b) := by
  have hasc := List.pairwise_lt_finRange 48
  refine List.pairwise_append.2 ⟨List.pairwise_filter.2 (hasc.imp fun {a b} hab ha hb => ?_),
    List.pairwise_filter.2 (hasc.imp fun {a b} hab ha hb => ?_), fun a ha b hb => ?_⟩
  all_goals
    simp only [List.mem_filter, decide_eq_true_eq, List.mem_finRange, true_and] at ha hb
    unfold scanDistance
    omega

/-- The arbiter chooses the channel whose list is not empty when the lists of all nearer channels are. -/
theorem chosenChannel_of_nearest {s : State} {c : Fin 48} (hc : (s.chan c).pendingCells ≠ [])
    (hnearer : ∀ d, scanDistance s.lastChannel d < scanDistance s.lastChannel c → (s.chan d).pendingCells = []) :
    s.chosenChannel = some c := by
  obtain ⟨before, after, hscan⟩ := List.append_of_mem (mem_scanOrder s.lastChannel c)
  have hsorted := hscan ▸ scanOrder_sorted s.lastChannel
  refine List.find?_eq_some_iff_append.2 ⟨by simpa using hc, before, after, hscan, fun d hd => ?_⟩
  simp [hnearer d ((List.pairwise_append.1 hsorted).2.2 d hd c List.mem_cons_self)]

/-! ## The CONTROL-slot load event -/

/-- The load event sends the oldest cell of the chosen channel. -/
theorem loadControl_of_formed {s : State} {c : Fin 48} {x : ControlCell} {rest : List ControlCell} {cell : Cell}
    (hchosen : s.chosenChannel = some c) (hcells : (s.chan c).pendingCells = x :: rest)
    (hcell : (s.chan c).formControl c x = some cell) : s.loadControl = some (s.sendControl c x cell) := by
  simp only [State.loadControl, hchosen, hcells, hcell, Option.map_some]

/-- A load event is taken on the state before it, its slot and what is kept for it apart. -/
theorem takesLoad_eq {s t : State} {part : SlotPart} {k : SlotKind} (h : s.takesLoad part k t) :
    t = { s with sequencer := t.sequencer } := by
  match part, h with
  | .boundary .now, ⟨_, _, ht⟩ => rw [ht]; rfl
  | .load, ⟨_, _, _, ht⟩ => rw [ht]

/-! ## Key installation (R112, R113) -/

theorem placing_iff (x : SyncState) : x.placing = true ↔ ¬ (x = .hunt ∨ x = .quarantine) := by
  cases x <;> simp [SyncState.placing]

/-- Step 6 of a key installation: HUNT and QUARANTINE end with their exchange, and other sync states stand. -/
theorem installSync_eq (r : Channel) :
    r.installSync =
      let ends := r.sync = .hunt ∨ r.sync = .quarantine
      { r with
        pendingCells := if ends then r.pendingCells.filter (fun x => decide (x.family ≠ .challenge)) else r.pendingCells
        sync := if ends then .sync else r.sync
        syncLoss := if ends then 0 else r.syncLoss
        challenge := if ends then none else r.challenge
        resyncRetries := if ends then 0 else r.resyncRetries
        resyncTimer := if ends then none else r.resyncTimer } := by
  by_cases h : r.sync = .hunt ∨ r.sync = .quarantine
  · rw [Channel.installSync, if_neg (fun hp => (placing_iff _).1 hp h)]
    simp only [h, if_true]
    rfl
  · rw [Channel.installSync, if_pos ((placing_iff _).2 h)]
    simp only [h, if_false]

theorem switchSent_of_keying {r : Channel} {p : PendingEntry} {keys : KeyPair} (hp : r.pendingEntry = some p)
    (hkeys : p.keys = some keys) (h : r.state = .keying) (cutover : Nat) :
    r.switchSent cutover = r.installInitial p.epoch keys := by
  obtain ⟨epoch, nonce, _⟩ := p
  subst hkeys
  simp only [Channel.switchSent, hp, h, if_true]

theorem switchSent_of_not_keying {r : Channel} {p : PendingEntry} {keys : KeyPair} (hp : r.pendingEntry = some p)
    (hkeys : p.keys = some keys) (h : r.state ≠ .keying) (cutover : Nat) :
    r.switchSent cutover = r.install p.epoch keys cutover := by
  obtain ⟨epoch, nonce, _⟩ := p
  subst hkeys
  simp only [Channel.switchSent, hp, if_neg h]

/-- A SWITCH is tagged under the pending entry (R57). -/
theorem formControl_switch {r : Channel} {p : PendingEntry} {keys : KeyPair} (hp : r.pendingEntry = some p)
    (hkeys : p.keys = some keys) (c : Fin 48) (epoch : BitVec 8) :
    r.formControl c (.switch epoch) =
      some (controlCell .switch { epoch := p.epoch, keys := keys } c (switchPayload epoch)) := by
  obtain ⟨_, nonce, _⟩ := p
  subst hkeys
  simp only [Channel.formControl, hp]

/-- The load event that sends a SWITCH: the record is as the SWITCH leaves it once its entry has left the list. -/
theorem exec_slotBoundary_switch {s t : State} {part : SlotPart} {c : Fin 48} {epoch : BitVec 8}
    {rest : List ControlCell} {p : PendingEntry} {keys : KeyPair} (hload : s.takesLoad part .control t)
    (hcells : (s.chan c).pendingCells = .switch epoch :: rest)
    (hnearer : ∀ d, scanDistance s.lastChannel d < scanDistance s.lastChannel c → (s.chan d).pendingCells = [])
    (hp : (s.chan c).pendingEntry = some p) (hkeys : p.keys = some keys) :
    exec (.slotBoundary part) s =
      .next { t.setChan c ({ s.chan c with pendingCells := rest }.switchSent s.renewalParams.cutover) with
        lastChannel := c
        lineOut := some (controlCell .switch { epoch := p.epoch, keys := keys } c (switchPayload epoch)) } := by
  have hchan : ∀ d, t.chan d = s.chan d := fun d => by rw [takesLoad_eq hload]; rfl
  have hparams : t.renewalParams = s.renewalParams := by rw [takesLoad_eq hload]
  have hlast : t.lastChannel = s.lastChannel := by rw [takesLoad_eq hload]
  have hchosen : t.chosenChannel = some c :=
    chosenChannel_of_nearest (by simp [hchan, hcells]) (by simpa [hchan, hlast] using hnearer)
  have hsent := loadControl_of_formed hchosen (by rw [hchan, hcells])
    (formControl_switch (by rw [hchan, hp]) hkeys c epoch)
  calc exec (.slotBoundary part) s
    _ = outcomeOf t.loadControl := execSlotBoundary_of_takesLoad hload
    _ = _ := by
      rw [hsent]
      simp only [outcomeOf, State.sendControl, State.modChan, Channel.sent, hchan, hparams, hcells, List.tail_cons]

/-- Settles O37: by the arbiter's choice of the channel, and the key installation by the state of the channel. -/
theorem switchInstallsTheNewEntry : Obligations.SwitchInstallsTheNewEntry := by
  intro s t part c epoch rest p keys hload hcells hnearer hp hkeys r key ends installed send
  have hexec := exec_slotBoundary_switch hload hcells hnearer hp hkeys
  refine ⟨fun e hactive hcurrent => ?_, fun hkeying => ?_⟩
  · have hinstall := switchSent_of_not_keying (r := { s.chan c with pendingCells := rest }) hp hkeys
      (show r.state ≠ .keying by simp [hactive]) s.renewalParams.cutover
    rw [hexec, hinstall, Channel.install, installSync_eq, show (s.chan c).current = some e from hcurrent]
    rfl
  · have hinstall := switchSent_of_keying (r := { s.chan c with pendingCells := rest }) hp hkeys hkeying
      s.renewalParams.cutover
    rw [hexec, hinstall, Channel.installInitial, installSync_eq]
    rfl

end Sys2Proof.Machine
end

section
/-! PROOFS. Arrivals in CONTROL slots up to the tag check (R45, R130 to R134, R136). A control cell finds its channel by
CHECK, ZERO and its channel id, then is held to the rest of its header checks, to its channel's state, to a known epoch
and to its tag, in that order. -/

namespace Sys2Proof.Machine

/-! ## The routing of an arrival (R45, R130) -/

/-- An arrival in a slot kept as CONTROL goes to the dispatch. -/
theorem exec_controlSlotArrival {s : State} (h : s.arrivesIn .control) (arrival : Option Cell) :
    exec (.controlSlotArrival arrival) s = .next (s.controlArrival arrival) := by
  obtain ⟨hreset, hkept⟩ := h
  have hrouted : s.controlSlotArrival arrival = s.controlArrival arrival := by rw [State.controlSlotArrival, hkept]
  calc exec (.controlSlotArrival arrival) s
    _ = .next (if s.resetLine then s else s.controlSlotArrival arrival) := rfl
    _ = .next (s.controlArrival arrival) := by simp [hreset, hrouted]

theorem controlArrival_idle (s : State) {cell : Cell} (h : cellKindOf cell = some .idle) :
    s.controlArrival (some cell) = s := by
  simp only [State.controlArrival, h]

/-- Traffic kinds and codes that name no kind have no place in a CONTROL slot. -/
theorem controlArrival_stray (s : State) {cell : Cell}
    (h : cellKindOf cell = none ∨ cellKindOf cell = some .data ∨ cellKindOf cell = some .pad) :
    s.controlArrival (some cell) = s.countStray := by
  obtain h | h | h := h <;> simp only [State.controlArrival, h]

/-- The control kinds are those with a length of their own. -/
theorem controlArrival_of_control_kind (s : State) {k : CellKind} {cell : Cell} (h : cellKindOf cell = some k)
    (hk : k.controlLength.isSome) : s.controlArrival (some cell) = s.dispatch k cell := by
  simp only [State.controlArrival, h]
  cases k
  case idle | data | pad => cases hk
  all_goals rfl

/-! ## The channel a control cell names (R130) -/

theorem headerChannelOf_eq_some_iff {h : BitVec 64} {c : Fin 48} :
    headerChannelOf h = some c ↔ (headerChannel h).toNat = c.val := by
  unfold headerChannelOf
  split
  next => rw [Option.some.injEq, Fin.ext_iff]
  next hge => exact iff_of_false (by simp) fun heq => hge (heq ▸ c.isLt)

/-- A cell that names a channel is routed to it, unless the channel is CLOSED. -/
theorem controlArrival_of_namesChannel (s : State) {k : CellKind} {c : Fin 48} {cell : Cell}
    (h : namesChannel k c cell) :
    s.controlArrival (some cell) = if (s.chan c).state = .closed then s.countStray else s.routeControl c k cell := by
  obtain ⟨hkind, hlength, hcheck, hzero, hchannel⟩ := h
  rw [controlArrival_of_control_kind s hkind hlength, State.dispatch, if_neg (by simp [hcheck, hzero]),
    headerChannelOf_eq_some_iff.2 hchannel]

theorem controlArrival_of_not_namesChannel (s : State) {k : CellKind} {cell : Cell} (h : cellKindOf cell = some k)
    (hk : k.controlLength.isSome) (hno : ∀ c, ¬ namesChannel k c cell) :
    s.controlArrival (some cell) = s.countStray := by
  rw [controlArrival_of_control_kind s h hk, State.dispatch]
  split
  next => rfl
  next hpasses =>
    obtain ⟨hcheck, hzero⟩ : checkPasses cell.header = true ∧ zeroPasses cell.header = true := by
      simpa using hpasses
    have hnone : headerChannelOf cell.header = none :=
      Option.eq_none_iff_forall_ne_some.2 fun c hc =>
        hno c ⟨h, hk, hcheck, hzero, headerChannelOf_eq_some_iff.1 hc⟩
    rw [hnone]

/-! ## The rest of the header checks (R131) -/

/-- Of the cells that name a channel, those of a kind the shop forms with that kind's sequence and length pass. -/
theorem controlSound_iff {k : CellKind} {c : Fin 48} {cell : Cell} (h : namesChannel k c cell) :
    controlSound k cell.header = true ↔ k.shopForms = true ∧ isControl k c cell := by
  have ⟨_, hlength, _⟩ := h
  obtain ⟨n, hn⟩ := Option.isSome_iff_exists.1 hlength
  simp [controlSound, sequencePasses, lengthPasses, isControl, h, hn, and_assoc, @eq_comm _ n]

theorem routeControl_of_unsound (s : State) {k : CellKind} {c : Fin 48} {cell : Cell} (h : namesChannel k c cell)
    (hk : k = .offer ∨ k = .switch ∨ ¬ isControl k c cell) :
    s.routeControl c k cell = s.modChan c Channel.countE := by
  have hunsound : ¬ controlSound k cell.header = true := by
    rw [controlSound_iff h]
    rintro ⟨hforms, hcontrol⟩
    obtain rfl | rfl | hno := hk
    · cases hforms
    · cases hforms
    · exact hno hcontrol
  exact if_pos (by simpa using hunsound)

/-- A sound REQUEST, RESYNC or MARK goes on to the tag check. -/
theorem routeControl_of_isControl (s : State) {k : CellKind} {c : Fin 48} {cell : Cell}
    (hk : k = .request ∨ k = .resync ∨ k = .mark) (h : isControl k c cell) :
    s.routeControl c k cell = s.judgeControl c k cell := by
  have hforms : k.shopForms = true ∧ k ≠ .accept := by
    obtain rfl | rfl | rfl := hk <;> exact ⟨rfl, nofun⟩
  have hsound : controlSound k cell.header = true := (controlSound_iff h.1).2 ⟨hforms.1, h⟩
  rw [State.routeControl, if_neg (by simp [hsound]), if_neg hforms.2]

theorem controlArrival_of_isControl {s : State} {k : CellKind} {c : Fin 48} {cell : Cell}
    (hk : k = .request ∨ k = .resync ∨ k = .mark) (h : isControl k c cell) (hopen : (s.chan c).state ≠ .closed) :
    s.controlArrival (some cell) = s.judgeControl c k cell := by
  rw [controlArrival_of_namesChannel s h.1, if_neg hopen, routeControl_of_isControl s hk h]

/-! ## Epoch and tag (R133, R134) -/

theorem select_of_selects {r : Channel} {tag : BitVec 2} {sel : Selection} (h : r.Selects tag sel) :
    r.select tag = some sel := by
  obtain ⟨e, he, htag, rfl⟩ | ⟨hcurrent, p, hp, htag, rfl⟩ := h
  · have hsome : r.current.filter (fun e => decide (epochTag e.key.epoch = tag)) = some e :=
      Option.filter_eq_some_iff.2 ⟨he, decide_eq_true htag⟩
    simp only [Channel.select, hsome]
  · have hnone : r.current.filter (fun e => decide (epochTag e.key.epoch = tag)) = none :=
      Option.filter_eq_none_iff.2 (by simpa using hcurrent)
    have hsome : r.previous.filter (fun e => decide (epochTag e.key.epoch = tag)) = some p :=
      Option.filter_eq_some_iff.2 ⟨hp, decide_eq_true htag⟩
    simp only [Channel.select, hnone, hsome, Option.map_some]

theorem judgeControl_of_not_active {s : State} {c : Fin 48} (k : CellKind) (cell : Cell)
    (h : (s.chan c).state ≠ .active) : s.judgeControl c k cell = s.countStray := if_pos h

theorem judgeControl_of_unknownEpoch {s : State} {c : Fin 48} (k : CellKind) {cell : Cell}
    (hactive : (s.chan c).state = .active) (h : (s.chan c).UnknownEpoch (headerEpochTag cell.header)) :
    s.judgeControl c k cell = s.modChan c Channel.countE := by
  rw [State.judgeControl, if_neg (not_not.2 hactive), (select_eq_none_iff ..).2 h]

/-- Under a known epoch the tag decides: an invalid one counts T, a valid one counts G and is handled by kind. -/
theorem judgeControl_of_selects {s : State} {c : Fin 48} (k : CellKind) {cell : Cell} {sel : Selection}
    (hactive : (s.chan c).state = .active) (h : (s.chan c).Selects (headerEpochTag cell.header) sel) :
    s.judgeControl c k cell =
      if tagValid sel.key.keys.kTag cell then (s.modChan c Channel.countG).handleControl c k sel cell
      else s.countT c := by
  rw [State.judgeControl, if_neg (not_not.2 hactive), select_of_selects h]

/-- Settles O43: each clause is one of the ends above, in the order in which a cell comes to them. -/
theorem controlSlotArrivalsAreDispatched : Obligations.ControlSlotArrivalsAreDispatched := by
  intro s harrives stray
  have hexec := exec_controlSlotArrival harrives
  refine ⟨hexec none, fun cell => ⟨fun hidle => ?_, fun hkind => ?_, fun k hkind hlength hno => ?_⟩,
    fun cell k c hnames => ?_⟩
  · rw [hexec, controlArrival_idle s hidle]
  · rw [hexec, controlArrival_stray s hkind]
    rfl
  · rw [hexec, controlArrival_of_not_namesChannel s hkind hlength hno]
    rfl
  intro countE
  refine ⟨fun hclosed => ?_, fun hopen hunsound => ?_, fun hk hcontrol => ⟨fun hopen hactive => ?_,
    fun hactive hepoch => ?_, fun sel hactive hselects htag => ?_⟩⟩
  · rw [hexec, controlArrival_of_namesChannel s hnames, if_pos hclosed]
    rfl
  · rw [hexec, controlArrival_of_namesChannel s hnames, if_neg hopen, routeControl_of_unsound s hnames hunsound]
    rfl
  · rw [hexec, controlArrival_of_isControl hk hcontrol hopen, judgeControl_of_not_active k cell hactive]
    rfl
  · rw [hexec, controlArrival_of_isControl hk hcontrol (by simp [hactive]),
      judgeControl_of_unknownEpoch k hactive hepoch]
    rfl
  · rw [hexec, controlArrival_of_isControl hk hcontrol (by simp [hactive]), judgeControl_of_selects k hactive hselects,
      if_neg (by simp [htag])]

end Sys2Proof.Machine
end

section
/-! PROOFS. READ_FAULT (R160). The command reads the log at the calling port's cursor: the oldest record that the modular
distance of R155 puts at or beyond it is answered in full, and the cursor goes just past that record. -/

namespace Sys2Proof.Machine

/-! ## The records at or beyond a cursor (R155) -/

/-- The modular distance from a cursor to a record number, in natural numbers. -/
theorem toNat_sub_eq (r c : BitVec 32) : (r - c).toNat = (r.toNat + 4294967296 - c.toNat) % 4294967296 := by
  rw [BitVec.toNat_sub]
  omega

theorem unread_eq (r c : BitVec 32) :
    unread r c = decide ((r.toNat + 4294967296 - c.toNat) % 4294967296 < 2147483648) := by
  rw [unread, toNat_sub_eq]

theorem unreadFrom_eq_nil_iff {log : FaultLog} {cursor : BitVec 32} :
    log.unreadFrom cursor = [] ↔ ∀ r ∈ log.records, unread r.number cursor = false := by
  simp [FaultLog.unreadFrom]

/-- Records that are read, ahead of an unread one, leave it the oldest unread record. -/
theorem unreadFrom_of_oldest {log : FaultLog} {cursor : BitVec 32} {before after : List FaultRecord} {r : FaultRecord}
    (hrecords : log.records = before ++ r :: after) (hbefore : ∀ b ∈ before, unread b.number cursor = false)
    (hr : unread r.number cursor = true) :
    log.unreadFrom cursor = r :: after.filter (fun x => unread x.number cursor) := by
  have hread : before.filter (fun x => unread x.number cursor) = [] := by simpa using hbefore
  rw [FaultLog.unreadFrom, hrecords, List.filter_append, hread, List.nil_append]
  exact List.filter_cons_of_pos hr

/-! ## The record's bytes (R160) -/

theorem optNum_channel (channel : Option (Fin 48)) :
    optNum 1 (channel.map (·.val)) = channel.elim [0, 0] (fun c => [1, BitVec.ofNat 8 c.val]) := by
  cases channel <;> simp [optNum, flagByte, bigEndian]

/-- READ_FAULT's results byte by byte, for whatever spells the kind, the channel and the port. -/
theorem FaultRecord.bytes_eq (r : FaultRecord) (cursor : BitVec 32) (left : Nat) {kind port : Byte}
    {channel : List Byte} (hkind : r.kind.byte = kind)
    (hchannel : r.channel.elim [0, 0] (fun c => [1, BitVec.ofNat 8 c.val]) = channel)
    (hport : (r.port.map portByte).getD 0 = port) :
    r.bytes cursor left =
      bigEndian 4 r.number.toNat ++ [kind] ++ channel ++ [port] ++ bigEndian 4 r.stamp.toNat ++
        bigEndian 2 r.detail.toNat ++ bigEndian 2 r.repeats ++
        bigEndian 2 (min 65535 ((r.number.toNat + 4294967296 - cursor.toNat) % 4294967296)) ++
        [BitVec.ofNat 8 left] := by
  subst hkind hchannel hport
  rw [FaultRecord.bytes, optNum_channel, toNat_sub_eq, u8_eq]
  rfl

/-! ## READ_FAULT as a command -/

theorem readFaultBody_of_none {p : Port} {s : State} (h : s.log.unreadFrom (s.link p).cursor = []) :
    readFaultBody p s = refuse .empty s := by
  simp only [readFaultBody, h]

theorem readFaultBody_of_oldest {p : Port} {s : State} {r : FaultRecord} {rest : List FaultRecord}
    (h : s.log.unreadFrom (s.link p).cursor = r :: rest) :
    readFaultBody p s =
      { completion := .done
        results := r.bytes (s.link p).cursor (s.log.unreadFrom (r.number + 1)).length
        state := s.setCursor p (r.number + 1) } := by
  simp only [readFaultBody, h]

/-- A taking leaves the calling port's cursor: only the port's queue changes. -/
@[simp] theorem taken_cursor (s : State) (p : Port) : ((s.taken p).link p).cursor = (s.link p).cursor := by
  cases p <;> rfl

/-- Every port's list holds READ_FAULT (R171). -/
theorem admittedOn_readFault (p : Port) : admittedOn p 0x60 = true := by cases p <;> rfl

/-- READ_FAULT, out of startup, is answered with what its body gives. -/
theorem exec_readFault {s : State} {p : Port} {tag : Byte} (hstartup : s.startup = false)
    (h : s.canTake p (commandFrame 0x60 tag []) = true) :
    exec (.readFault p tag) s =
      .next ((readFaultBody p (s.taken p)).state.respond p tag 0x60 (readFaultBody p (s.taken p)).completion
        (readFaultBody p (s.taken p)).results) :=
  congrArg Host.Outcome.next (taking_of_admitted (readFaultBody p) h (admittedOn_readFault p) hstartup)

theorem exec_readFault_of_none {s : State} {p : Port} {tag : Byte} (hstartup : s.startup = false)
    (h : s.canTake p (commandFrame 0x60 tag []) = true) (hnone : s.log.unreadFrom (s.link p).cursor = []) :
    exec (.readFault p tag) s = .next (s.answered p tag 0x60 .empty []) := by
  have hbody : readFaultBody p (s.taken p) = refuse .empty (s.taken p) := readFaultBody_of_none (by simpa using hnone)
  rw [exec_readFault hstartup h, hbody]
  rfl

theorem exec_readFault_of_oldest {s : State} {p : Port} {tag : Byte} {r : FaultRecord} {rest : List FaultRecord}
    (hstartup : s.startup = false) (h : s.canTake p (commandFrame 0x60 tag []) = true)
    (holdest : s.log.unreadFrom (s.link p).cursor = r :: rest) :
    exec (.readFault p tag) s =
      .next (((s.taken p).setCursor p (r.number + 1)).respond p tag 0x60 .done
        (r.bytes (s.link p).cursor (s.log.unreadFrom (r.number + 1)).length)) := by
  have holdest' : (s.taken p).log.unreadFrom ((s.taken p).link p).cursor = r :: rest := by simpa using holdest
  rw [exec_readFault hstartup h, readFaultBody_of_oldest holdest', taken_cursor, taken_log]

/-- Settles O25: by the oldest record at or beyond the calling port's cursor, if there is one. -/
theorem readFaultAdvancesTheCursor : Obligations.ReadFaultAdvancesTheCursor := by
  intro s p tag hstartup h cursor unreadAt
  have hunread : unreadAt = fun c r => unread r.number c := by
    funext c r
    exact (unread_eq r.number c).symm
  rw [hunread]
  refine ⟨fun hnone => ?_, fun before after r hrecords hbefore hr => ?_⟩
  · exact exec_readFault_of_none hstartup h (unreadFrom_eq_nil_iff.2 hnone)
  · rw [exec_readFault_of_oldest hstartup h (unreadFrom_of_oldest hrecords hbefore hr)]
    refine congrArg (fun results => Host.Outcome.next (State.respond _ p tag 0x60 .done results))
      (r.bytes_eq cursor _ ?kind ?channel ?port)
    case kind => cases r.kind <;> rfl
    case channel => cases r.channel <;> rfl
    case port => rcases r.port with _ | _ | _ | _ <;> rfl

end Sys2Proof.Machine
end

section
/-! PROOFS. Records that fit (R2, R59, R74, R97, R124), operation by operation: each operation on one record keeps the law
that its parts fit each other, under the condition on which the part carries it out. -/

namespace Sys2Proof.Machine

/-! ## The parts of the law, and pending lists -/

/-- A record KEYING or ACTIVE holds the entries of its state and no others (R2). -/
theorem Channel.Fits.entries_of_triggerable {r : Channel} (h : r.Fits) (ht : r.triggerable = true) :
    (r.state = .keying ∧ r.current = none ∧ r.previous = none ∧ r.base.isSome ∧ r.challenge = none) ∨
      (r.state = .active ∧ r.current.isSome ∧ r.base = none) := by
  have he := h.entries
  rcases (triggerable_iff r).1 ht with hs | hs <;> simp only [Channel.EntriesFit, hs] at he
  · exact .inl ⟨hs, he⟩
  · exact .inr ⟨hs, he⟩

/-- A record that holds the entries of its state while KEYING or ACTIVE, as r does, after a change of other fields. -/
theorem Channel.Fits.entriesFit_of_triggerable {r x : Channel} (h : r.Fits) (ht : r.triggerable = true)
    (hs : x.state = r.state) (hc : x.current.isSome = r.current.isSome) (hp : r.previous = none → x.previous = none)
    (hb : x.base = r.base) (hx : r.challenge = none → x.challenge = none) : x.EntriesFit := by
  rcases h.entries_of_triggerable ht with ⟨hk, hcur, hprev, hbase, hch⟩ | ⟨ha, hcur, hbase⟩
  · simp only [hcur, Option.isSome_none, Option.isSome_eq_false_iff, Option.isNone_iff_eq_none] at hc
    simp only [Channel.EntriesFit, hs, hk]
    exact ⟨hc, hp hprev, hb ▸ hbase, hx hch⟩
  · simp only [Channel.EntriesFit, hs, ha]
    exact ⟨hc.trans hcur, hb.trans hbase⟩

/-- A record with something in flight is KEYING or ACTIVE (R4, R10, R12). -/
theorem Channel.Fits.triggerable_of_not_dormant {r : Channel} (h : r.Fits) (hd : ¬ r.Dormant) : r.triggerable = true := by
  rw [triggerable_iff]
  cases hs : r.state
  case keying => exact .inl rfl
  case active => exact .inr rfl
  all_goals exact absurd (h.dormant (by simp [hs])) hd

theorem Channel.Fits.triggerable_of_renewal {r : Channel} (h : r.Fits) (hr : r.renewal ≠ .idle) : r.triggerable = true :=
  h.triggerable_of_not_dormant fun hd => hr hd.renewal

theorem Channel.Fits.triggerable_of_pending {r : Channel} (h : r.Fits) (hr : r.pendingCells ≠ []) :
    r.triggerable = true :=
  h.triggerable_of_not_dormant fun hd => hr hd.pendingCells

/-- A pending cell of another family does not matter to the renewal. -/
theorem Channel.RenewalFits.of_pending {r x : Channel} (h : r.RenewalFits) (hr : x.renewal = r.renewal)
    (hp : x.pendingEntry = r.pendingEntry) (ho : x.offerTimer = r.offerTimer)
    (hprev : x.previous = none ↔ r.previous = none)
    (hcells : ∀ y : ControlCell, y.family = .renewal → (y ∈ x.pendingCells ↔ y ∈ r.pendingCells)) : x.RenewalFits := by
  have hnone : x.NonePending .renewal ↔ r.NonePending .renewal :=
    ⟨fun hx y hy hf => hx y ((hcells y hf).2 hy) hf, fun hx y hy hf => hx y ((hcells y hf).1 hy) hf⟩
  have hoffer (e n) : ControlCell.offer e n ∈ x.pendingCells ↔ .offer e n ∈ r.pendingCells := hcells _ rfl
  have hswitch (e) : ControlCell.switch e ∈ x.pendingCells ↔ .switch e ∈ r.pendingCells := hcells _ rfl
  have hsome : x.previous.isSome = true ↔ r.previous.isSome = true := by
    rw [← Option.ne_none_iff_isSome, ← Option.ne_none_iff_isSome, Ne, Ne, hprev]
  simpa only [Channel.RenewalFits, hr, hp, ho, hprev, hnone, hoffer, hswitch, hsome] using h

/-- A pending cell of another family does not matter to the resync exchange. -/
theorem Channel.ExchangeFits.of_pending {r x : Channel} (h : r.ExchangeFits) (hs : x.state = r.state)
    (hsync : x.sync = r.sync) (hc : x.challenge = r.challenge) (ht : x.resyncTimer = r.resyncTimer)
    (hr : x.resyncRetries = r.resyncRetries ∨ r.challenge ≠ none)
    (hcells : ∀ y : ControlCell, y.family = .challenge → (y ∈ x.pendingCells ↔ y ∈ r.pendingCells)) :
    x.ExchangeFits := by
  have hnone : x.NonePending .challenge ↔ r.NonePending .challenge :=
    ⟨fun hx y hy hf => hx y ((hcells y hf).2 hy) hf, fun hx y hy hf => hx y ((hcells y hf).1 hy) hf⟩
  have hresync (n) : ControlCell.resync n ∈ x.pendingCells ↔ .resync n ∈ r.pendingCells := hcells _ rfl
  cases hch : r.challenge with
  | none =>
    obtain hr | hr := hr
    · simpa only [Channel.ExchangeFits, hs, hsync, hc, ht, hr, hnone, hresync] using h
    · exact absurd hch hr
  | some n =>
    simpa only [Channel.ExchangeFits, hs, hsync, hc, ht, hnone, hresync, hch] using h

theorem mem_enqueue_of_family {x y : ControlCell} {list : List ControlCell} (h : y.family ≠ x.family) :
    y ∈ enqueue x list ↔ y ∈ list := by
  rw [mem_enqueue]
  exact ⟨fun hy => hy.elim (fun e => absurd (congrArg ControlCell.family e) h) And.left, fun hy => .inr ⟨hy, h⟩⟩

theorem mem_withdraw_of_family {r : Channel} {y : ControlCell} {f : Family} (h : y.family ≠ f) :
    y ∈ (r.withdraw f).pendingCells ↔ y ∈ r.pendingCells := by
  rw [mem_withdraw, and_iff_left h]

/-- Withdrawal leaves no entry of its family (R126). -/
theorem nonePending_withdraw (r : Channel) (f : Family) : (r.withdraw f).NonePending f :=
  fun _ hx => (mem_withdraw.1 hx).2

/-- Queueing keeps the law of the pending list: a MARK is queued on an ACTIVE channel only (R81, R124). -/
theorem Channel.ListFits.enqueue {r x : Channel} (h : r.ListFits) (cell : ControlCell)
    (hs : r.state = .active → x.state = .active) (hf : cell.family = .answer → x.state = .active)
    (hcells : x.pendingCells = Machine.enqueue cell r.pendingCells) : x.ListFits := by
  refine ⟨hcells ▸ enqueue_families h.1, ?_⟩
  by_cases hx : x.state = .active
  · exact .inl hx
  refine .inr fun y hy hfam => ?_
  rcases mem_enqueue.1 (hcells ▸ hy) with rfl | ⟨hy, -⟩
  · exact hx (hf hfam)
  · exact h.2.elim (fun ha => hx (hs ha)) (fun hn => hn y hy hfam)

/-- Queueing an entry of another family does not matter to the resync exchange. -/
theorem Channel.ExchangeFits.enqueue {r x : Channel} {cell : ControlCell} (h : r.ExchangeFits)
    (hs : x.state = r.state) (hsync : x.sync = r.sync) (hc : x.challenge = r.challenge)
    (ht : x.resyncTimer = r.resyncTimer) (hr : x.resyncRetries = r.resyncRetries)
    (hcells : x.pendingCells = Machine.enqueue cell r.pendingCells) (hf : cell.family ≠ .challenge) : x.ExchangeFits :=
  h.of_pending hs hsync hc ht (.inl hr) fun _ hy => hcells ▸ mem_enqueue_of_family (hy ▸ hf.symm)

/-- Taking entries out of the pending list keeps its law. -/
theorem Channel.ListFits.sublist {r x : Channel} (h : r.ListFits) (hs : r.state = .active → x.state = .active)
    (hcells : x.pendingCells.Sublist r.pendingCells) : x.ListFits :=
  ⟨h.1.sublist (hcells.map _), h.2.imp hs fun hn y hy => hn y (hcells.subset hy)⟩

/-! ## Fields that the law does not speak of -/

/-- A change of quality state, parameters or outbound queue of a record that is not CLOSED. -/
theorem Channel.Fits.with_rest {r : Channel} (h : r.Fits) (hs : r.state ≠ .closed) (quality : Quality)
    (preset ageLimit syncLoss : Nat) (outbound : List OutboundCell) :
    { r with quality := quality, preset := preset, ageLimit := ageLimit, syncLoss := syncLoss,
             outbound := outbound }.Fits := by
  refine ⟨?_, h.renewal, h.exchange, h.owner, h.list⟩
  have he := h.entries
  cases hstate : r.state
  case closed => exact absurd hstate hs
  all_goals simpa only [Channel.EntriesFit, hstate] using he

/-- A record with no renewal, no exchange and nothing pending. -/
theorem Channel.Fits.of_nothing_in_flight {r : Channel} (he : r.EntriesFit) (ho : r.OwnerFits) (hr : r.renewal = .idle)
    (hp : r.pendingEntry = none) (ht : r.offerTimer = none) (hprev : r.previous = none) (hx : r.challenge = none)
    (hxt : r.resyncTimer = none) (hxr : r.resyncRetries = 0) (hcells : r.pendingCells = []) : r.Fits where
  entries := he
  renewal := by simp [Channel.RenewalFits, Channel.NonePending, hr, hp, ht, hprev, hcells]
  exchange := by simp [Channel.ExchangeFits, Channel.NonePending, hx, hxt, hxr, hcells]
  owner := ho
  list := by simp [Channel.ListFits, Channel.NonePending, hcells]

theorem closedValues_fits : Channel.closedValues.Fits :=
  .of_nothing_in_flight rfl nofun rfl rfl rfl rfl rfl rfl rfl rfl

theorem Channel.opened_fits (m : Fin 4) (shop : BitVec 32) (q : Service) : (Channel.opened m shop q).Fits :=
  .of_nothing_in_flight ⟨rfl, rfl, rfl, rfl, rfl, rfl, rfl, rfl, rfl, rfl, rfl⟩ (fun _ => ⟨rfl, rfl, rfl⟩) rfl rfl rfl rfl
    rfl rfl rfl rfl

/-- CLOSING keeps serving port, master slot and shop code, and nothing in flight (R12, R13). -/
theorem Channel.Fits.closing {r : Channel} (h : r.Fits) (hs : r.state ≠ .closed) : r.closing.Fits :=
  .of_nothing_in_flight ⟨rfl, rfl, rfl, rfl, rfl, rfl, rfl, rfl, rfl, rfl, rfl⟩ (fun _ => h.owner hs) rfl rfl rfl rfl
    rfl rfl rfl rfl

/-! ## Renewal -/

/-- A trigger notes its cause on a KEYING or ACTIVE record (R101). -/
theorem Channel.Fits.note {r : Channel} (h : r.Fits) (ht : r.triggerable = true) (k : Cause) : (r.note k).Fits := by
  exact ⟨h.entriesFit_of_triggerable ht rfl rfl id rfl id, h.renewal, h.exchange, h.owner, h.list⟩

/-- A record in IDLE holds no pending entry, no previous entry and no pending OFFER or SWITCH (R97). -/
theorem Channel.Fits.idle {r : Channel} (h : r.Fits) (hi : r.renewal = .idle) :
    r.pendingEntry = none ∧ r.offerTimer = none ∧ r.previous = none ∧ r.NonePending .renewal := by
  simpa only [Channel.RenewalFits, hi] using h.renewal

/-- A start makes an IDLE record OFFERED with its OFFER pending (R105). -/
theorem Channel.Fits.startRenewal {r : Channel} (h : r.Fits) (hd : r.startDue = true) (retries : Nat)
    (nonce : BitVec 64) : (r.startRenewal retries nonce).Fits := by
  obtain ⟨ht, hi⟩ : r.triggerable = true ∧ r.renewal = .idle := by
    simp only [Channel.startDue, Bool.and_eq_true, decide_eq_true_eq] at hd
    exact hd.1
  obtain ⟨-, -, hprev, -⟩ := h.idle hi
  refine ⟨h.entriesFit_of_triggerable ht rfl rfl id rfl id, ?_,
    h.exchange.enqueue rfl rfl rfl rfl rfl rfl nofun,
    h.owner, h.list.enqueue (.offer r.newEpoch nonce) id nofun rfl⟩
  · exact ⟨hprev, rfl, .inl ⟨rfl, mem_enqueue.2 (.inl rfl)⟩⟩

/-- The offer timer runs in OFFERED only, with the OFFER sent (R97). -/
theorem Channel.Fits.offered_of_timer {r : Channel} (h : r.Fits) (ht : r.offerTimer.isSome) :
    r.renewal = .offered ∧ r.previous = none ∧ (∃ p, r.pendingEntry = some p ∧ p.keys = none) ∧ r.NonePending .renewal := by
  have hr := h.renewal
  cases hs : r.renewal <;> simp only [Channel.RenewalFits, hs] at hr
  case offered =>
    obtain ⟨hprev, hp⟩ := hr
    split at hp
    next p hsome =>
      obtain ⟨hkeys, ⟨hno, -⟩ | ⟨-, hnone⟩⟩ := hp
      · simp [hno] at ht
      · exact ⟨rfl, hprev, ⟨p, hsome, hkeys⟩, hnone⟩
    next => exact hp.elim
  case idle => simp [hr.2.1] at ht
  case agreed => simp [hr.2.1] at ht
  case cutover => simp [hr.2.1] at ht

/-- An expiry with retries left queues the OFFER again (R107). -/
theorem Channel.Fits.requeueOffer {r : Channel} (h : r.Fits) (ho : r.offerTimer.isSome) : r.requeueOffer.Fits := by
  obtain ⟨hr, hprev, ⟨p, hp, hkeys⟩, -⟩ := h.offered_of_timer ho
  have ht := h.triggerable_of_renewal (by simp [hr])
  have heq : r.requeueOffer =
      { r.queueCell (.offer p.epoch p.nonce) with renewRetries := r.renewRetries - 1, offerTimer := none } := by
    simp only [Channel.requeueOffer, hp]
  rw [heq]
  refine ⟨h.entriesFit_of_triggerable ht rfl rfl id rfl id, ?_,
    h.exchange.enqueue rfl rfl rfl rfl rfl rfl nofun,
    h.owner, h.list.enqueue (.offer p.epoch p.nonce) id nofun rfl⟩
  · simp [Channel.RenewalFits, Channel.queueCell, hr, hprev, hp, hkeys, mem_enqueue]

/-- A failed renewal leaves IDLE with nothing of the renewal in flight (R108). -/
theorem Channel.Fits.failRenewal {r : Channel} (h : r.Fits) (ho : r.offerTimer.isSome) (tOffer : Nat) :
    (r.failRenewal tOffer).Fits := by
  obtain ⟨hr, hprev, -, -⟩ := h.offered_of_timer ho
  have ht := h.triggerable_of_renewal (by simp [hr])
  refine ⟨h.entriesFit_of_triggerable ht rfl rfl id rfl id,
    ⟨rfl, rfl, hprev, nonePending_withdraw r .renewal⟩,
    h.exchange.of_pending rfl rfl rfl rfl (.inl rfl) fun y hy => mem_withdraw_of_family (by simp [hy]),
    h.owner, h.list.sublist id List.filter_sublist⟩

/-- A verified ACCEPT makes an OFFERED record AGREED with its SWITCH pending (R110). -/
theorem Channel.Fits.agree {r : Channel} (h : r.Fits) (hr : r.renewal = .offered) (p : PendingEntry) (keys : KeyPair) :
    (r.agree p keys).Fits := by
  have ht := h.triggerable_of_renewal (by simp [hr])
  have hprev : r.previous = none := by
    have := h.renewal
    simp only [Channel.RenewalFits, hr] at this
    exact this.1
  refine ⟨h.entriesFit_of_triggerable ht rfl rfl id rfl id, ?_,
    h.exchange.enqueue rfl rfl rfl rfl rfl rfl nofun,
    h.owner, h.list.enqueue (.switch p.epoch) id nofun rfl⟩
  · exact ⟨hprev, rfl, rfl, mem_enqueue.2 (.inl rfl)⟩

/-- The end of a cutover leaves IDLE with no previous entry (R115). -/
theorem Channel.Fits.endCutover {r : Channel} (h : r.Fits) (hp : r.previous.isSome) : r.endCutover.Fits := by
  have hr := h.renewal
  cases hs : r.renewal <;> simp only [Channel.RenewalFits, hs] at hr
  case cutover =>
    have ht := h.triggerable_of_renewal (by simp [hs])
    obtain ⟨hp, ho, -, hnone⟩ := hr
    exact ⟨h.entriesFit_of_triggerable ht rfl rfl (fun _ => rfl) rfl id, ⟨hp, ho, rfl, hnone⟩, h.exchange, h.owner,
      h.list⟩
  case idle => simp [hr.2.2.1] at hp
  case offered => simp [hr.1] at hp
  case agreed => simp [hr.1] at hp

/-- Entry to KEYING derives the base entry (R11, R116). -/
theorem Channel.Fits.enterKeying {r : Channel} (h : r.Fits) (hs : r.state = .opening) {base : Option KeyEntry}
    (hb : base.isSome) : (r.enterKeying base).Fits := by
  have he := h.entries
  simp only [Channel.EntriesFit, hs] at he
  obtain ⟨hcur, hprev, -, -, -, -, -, hcells, -, -, hx⟩ := he
  refine ⟨⟨hcur, hprev, hb, hx⟩, h.renewal, ?_, fun _ => h.owner (by simp [hs]), h.list.sublist (by simp [hs]) (.refl _)⟩
  have hexchange := h.exchange
  simp only [Channel.ExchangeFits, hx] at hexchange
  simpa [Channel.ExchangeFits, Channel.enterKeying, hx] using hexchange

/-! ## Loss of sync and the resync exchange -/

/-- An ACTIVE record holds a current entry and no base entry (R2). -/
theorem Channel.Fits.active {r : Channel} (h : r.Fits) (ha : r.state = .active) : r.current.isSome ∧ r.base = none := by
  simpa only [Channel.EntriesFit, ha] using h.entries

/-- A change of an ACTIVE record's sync state, exchange and pending list, its renewal left as it is. -/
theorem Channel.Fits.resynced {r x : Channel} (h : r.Fits) (ha : r.state = .active) (hx : x.ExchangeFits)
    (hl : x.ListFits) (hs : x.state = r.state) (hcur : x.current.isSome = r.current.isSome) (hb : x.base = r.base)
    (hr : x.renewal = r.renewal) (hp : x.pendingEntry = r.pendingEntry) (ho : x.offerTimer = r.offerTimer)
    (hprev : x.previous = none ↔ r.previous = none)
    (howner : x.serving.isSome = r.serving.isSome ∧ x.master = r.master ∧ x.shop = r.shop)
    (hcells : ∀ y : ControlCell, y.family = .renewal → (y ∈ x.pendingCells ↔ y ∈ r.pendingCells)) : x.Fits := by
  obtain ⟨hserving, hmaster, hshop⟩ := howner
  refine ⟨?_, h.renewal.of_pending hr hp ho hprev hcells, hx, fun _ => ?_, hl⟩
  · simp only [Channel.EntriesFit, hs, ha, hcur, hb]
    exact h.active ha
  · rw [hserving, hmaster, hshop]
    exact h.owner (by simp [ha])

/-- The end of the exchange leaves no challenge, no timer and no pending RESYNC (R74). -/
theorem Channel.endExchange_exchangeFits (r : Channel) : r.endExchange.ExchangeFits :=
  ⟨rfl, rfl, nonePending_withdraw r .challenge⟩

theorem mem_endExchange {r : Channel} {y : ControlCell} (h : y.family = .renewal) :
    y ∈ r.endExchange.pendingCells ↔ y ∈ r.pendingCells :=
  mem_withdraw_of_family (h ▸ nofun)

/-- The end of the exchange, with whatever sync state follows (R74, R77, R79, R112). -/
theorem Channel.Fits.endExchange {r : Channel} (h : r.Fits) (ha : r.state = .active) (newSync : SyncState)
    (syncLoss : Nat) : { r.endExchange with sync := newSync, syncLoss := syncLoss }.Fits :=
  h.resynced ha r.endExchange_exchangeFits (h.list.sublist id List.filter_sublist) rfl rfl rfl rfl rfl rfl .rfl
    ⟨rfl, rfl, rfl⟩ fun _ hy => mem_endExchange hy

/-- A running resync timer belongs to an exchange, in HUNT on an ACTIVE channel, whose RESYNC has been sent (R74). -/
theorem Channel.Fits.hunts_of_timer {r : Channel} (h : r.Fits) (ht : r.resyncTimer.isSome) :
    r.state = .active ∧ r.sync = .hunt ∧ ∃ x, r.challenge = some x := by
  have hx := h.exchange
  cases hc : r.challenge <;> simp only [Channel.ExchangeFits, hc] at hx
  case none => simp [hx.1] at ht
  case some x => exact ⟨hx.1, hx.2.1, x, rfl⟩

/-- The exchange ends with its resync timer's last expiry (R76). -/
theorem Channel.Fits.endExchange_of_timer {r : Channel} (h : r.Fits) (ht : r.resyncTimer.isSome) : r.endExchange.Fits :=
  h.endExchange (h.hunts_of_timer ht).1 r.sync r.syncLoss

/-- An expiry with retries left queues the RESYNC again (R76). -/
theorem Channel.Fits.requeueResync {r : Channel} (h : r.Fits) (ht : r.resyncTimer.isSome) : r.requeueResync.Fits := by
  obtain ⟨ha, hsync, x, hx⟩ := h.hunts_of_timer ht
  have heq : r.requeueResync =
      { r.queueCell (.resync x) with resyncRetries := r.resyncRetries - 1, resyncTimer := none } := by
    simp only [Channel.requeueResync, hx]
  rw [heq]
  refine h.resynced ha ?_ (h.list.enqueue (.resync x) id nofun rfl) rfl rfl rfl rfl rfl rfl .rfl ⟨rfl, rfl, rfl⟩
    fun y hy => mem_enqueue_of_family (hy ▸ nofun)
  simp [Channel.ExchangeFits, Channel.queueCell, hx, ha, hsync, mem_enqueue]

/-- Loss of sync begins an exchange with its RESYNC pending (R73). -/
theorem Channel.Fits.loseSync {r : Channel} (h : r.Fits) (ha : r.state = .active) (x : BitVec 64) (retries : Nat) :
    (r.loseSync x retries).Fits :=
  h.resynced ha ⟨ha, rfl, .inl ⟨rfl, mem_enqueue.2 (.inl rfl)⟩⟩ (h.list.enqueue (.resync x) id nofun rfl) rfl rfl rfl rfl
    rfl rfl .rfl ⟨rfl, rfl, rfl⟩ fun _ hy => mem_enqueue_of_family (hy ▸ nofun)

/-- An ACTIVE record queues a MARK (R81). -/
theorem Channel.Fits.queueMark {r : Channel} (h : r.Fits) (ha : r.state = .active) (x : BitVec 64) :
    (r.queueCell (.mark x)).Fits :=
  h.resynced ha (h.exchange.enqueue rfl rfl rfl rfl rfl rfl nofun) (h.list.enqueue (.mark x) id (fun _ => ha) rfl) rfl
    rfl rfl rfl rfl rfl .rfl ⟨rfl, rfl, rfl⟩ fun _ hy => mem_enqueue_of_family (hy ▸ nofun)

/-- A SUSPENDED record has no exchange, and RESUME leaves it so (R74, R80). -/
theorem Channel.Fits.resume {r : Channel} (h : r.Fits) (hs : r.sync = .suspended) : { r with sync := .sync }.Fits := by
  have hx := h.exchange
  cases hc : r.challenge <;> simp only [Channel.ExchangeFits, hc] at hx
  case some x => simp [hs] at hx
  case none =>
    refine ⟨?_, h.renewal, by simpa [Channel.ExchangeFits, hc] using hx, h.owner, h.list⟩
    have he := h.entries
    cases hstate : r.state <;> simp only [Channel.EntriesFit, hstate] at he ⊢
    case closed => simp [he, Channel.closedValues] at hs
    all_goals simp_all

/-! ## Windows, sending and HELD -/

/-- A change of the entries' windows, sequences, ages and timers leaves what entries there are and which timers run. -/
theorem Channel.Fits.with_counts {r : Channel} (h : r.Fits) (hs : r.state ≠ .closed) {current : Option CurrentEntry}
    {previous : Option PreviousEntry} {holdOff : Nat} {offerTimer resyncTimer : Option Nat} {quality : Quality}
    (hc : current.isSome = r.current.isSome) (hp : previous.isSome = r.previous.isSome)
    (hh : r.holdOff = 0 → holdOff = 0) (ho : offerTimer.isSome = r.offerTimer.isSome)
    (ht : resyncTimer.isSome = r.resyncTimer.isSome) :
    { r with current := current, previous := previous, holdOff := holdOff, offerTimer := offerTimer,
             resyncTimer := resyncTimer, quality := quality }.Fits := by
  have none_iff {α β : Type} {x : Option α} {y : Option β} (hxy : x.isSome = y.isSome) : x = none ↔ y = none := by
    rw [← Option.not_isSome_iff_eq_none, ← Option.not_isSome_iff_eq_none, hxy]
  refine ⟨?_, ?_, ?_, h.owner, h.list⟩
  · have he := h.entries
    cases hstate : r.state <;> simp only [Channel.EntriesFit, hstate] at he ⊢
    case closed => exact absurd hstate hs
    case opening | closing =>
      obtain ⟨e1, e2, e3, e4, e5, e6, e7, e8⟩ := he
      exact ⟨(none_iff hc).2 e1, (none_iff hp).2 e2, e3, e4, e5, e6, hh e7, e8⟩
    case keying => exact ⟨(none_iff hc).2 he.1, (none_iff hp).2 he.2.1, he.2.2⟩
    case active => exact ⟨hc.trans he.1, he.2⟩
  · have hr := h.renewal
    simpa only [Channel.RenewalFits, none_iff hp, none_iff ho, hp, ho] using hr
  · have hx := h.exchange
    simpa only [Channel.ExchangeFits, none_iff ht, ht] using hx

/-- A change of the entries' windows and sequences. -/
theorem Channel.Fits.with_entries {r : Channel} (h : r.Fits) (hs : r.state ≠ .closed) {current : Option CurrentEntry}
    {previous : Option PreviousEntry} (hc : current.isSome = r.current.isSome)
    (hp : previous.isSome = r.previous.isSome) : { r with current := current, previous := previous }.Fits :=
  h.with_counts hs hc hp id rfl rfl

/-- HELD is a mark of ACTIVE channels (R21). -/
theorem Channel.Fits.with_held {r : Channel} (h : r.Fits) (ha : r.state = .active) (held : Bool) :
    { r with held := held }.Fits :=
  h.resynced ha h.exchange h.list rfl rfl rfl rfl rfl rfl .rfl ⟨rfl, rfl, rfl⟩ fun _ _ => .rfl

/-- The hold-off may end on any record (R104). -/
theorem Channel.Fits.with_holdOff {r : Channel} (h : r.Fits) : { r with holdOff := 0 }.Fits := by
  refine ⟨?_, h.renewal, h.exchange, h.owner, h.list⟩
  have he := h.entries
  cases hs : r.state <;> simp only [Channel.EntriesFit, hs] at he ⊢
  case closed => rw [he]; rfl
  all_goals simp_all

/-! ## Sending a control cell (R75, R106, R112, R113, R128) -/

/-- The list without its oldest entry holds no other of that entry's family (R124). -/
theorem Channel.ListFits.nonePending_tail {r : Channel} {x : ControlCell} {rest : List ControlCell} (h : r.ListFits)
    (hcells : r.pendingCells = x :: rest) : { r with pendingCells := rest }.NonePending x.family := by
  have hn := h.1
  rw [hcells, List.map_cons, List.nodup_cons] at hn
  exact fun y hy hf => hn.1 (List.mem_map.2 ⟨y, hy, hf⟩)

theorem mem_tail_of_family {r : Channel} {x y : ControlCell} {rest : List ControlCell}
    (hcells : r.pendingCells = x :: rest) (hf : y.family ≠ x.family) : y ∈ rest ↔ y ∈ r.pendingCells := by
  rw [hcells, List.mem_cons, or_iff_right fun e => hf (congrArg _ e)]

/-- A pending OFFER is that of an OFFERED record (R59, R97). -/
theorem Channel.Fits.offered_of_pending {r : Channel} (h : r.Fits) {epoch : BitVec 8} {nonce : BitVec 64}
    (hx : .offer epoch nonce ∈ r.pendingCells) :
    r.renewal = .offered ∧ r.previous = none ∧ r.offerTimer = none ∧ ∃ p, r.pendingEntry = some p ∧ p.keys = none := by
  have hr := h.renewal
  have hno : ¬ r.NonePending .renewal := fun hn => hn _ hx rfl
  cases hs : r.renewal <;> simp only [Channel.RenewalFits, hs] at hr
  case idle => exact absurd hr.2.2.2 hno
  case cutover => exact absurd hr.2.2.2 hno
  case offered =>
    obtain ⟨hprev, hp⟩ := hr
    split at hp
    next p hsome =>
      obtain ⟨hkeys, ⟨ht, -⟩ | ⟨-, hn⟩⟩ := hp
      · exact ⟨rfl, hprev, ht, p, hsome, hkeys⟩
      · exact absurd hn hno
    next => exact hp.elim
  case agreed =>
    obtain ⟨-, -, hp⟩ := hr
    split at hp
    next p hsome => exact absurd (List.inj_on_of_nodup_map h.list.1 hp.2 hx rfl) nofun
    next => exact hp.elim

/-- A pending SWITCH is that of an AGREED record, of its pending entry (R59, R97). -/
theorem Channel.Fits.agreed_of_pending {r : Channel} (h : r.Fits) {epoch : BitVec 8}
    (hx : .switch epoch ∈ r.pendingCells) :
    r.renewal = .agreed ∧ r.previous = none ∧ r.offerTimer = none ∧
      ∃ p keys, r.pendingEntry = some p ∧ p.keys = some keys ∧ p.epoch = epoch := by
  have hr := h.renewal
  have hno : ¬ r.NonePending .renewal := fun hn => hn _ hx rfl
  cases hs : r.renewal <;> simp only [Channel.RenewalFits, hs] at hr
  case idle => exact absurd hr.2.2.2 hno
  case cutover => exact absurd hr.2.2.2 hno
  case offered =>
    obtain ⟨hprev, hp⟩ := hr
    split at hp
    next p hsome =>
      obtain ⟨hkeys, ⟨-, ho⟩ | ⟨-, hn⟩⟩ := hp
      · exact absurd (List.inj_on_of_nodup_map h.list.1 ho hx rfl) nofun
      · exact absurd hn hno
    next => exact hp.elim
  case agreed =>
    obtain ⟨hprev, ht, hp⟩ := hr
    split at hp
    next p hsome =>
      obtain ⟨keys, hkeys⟩ := Option.isSome_iff_exists.1 hp.1
      exact ⟨rfl, hprev, ht, p, keys, hsome, hkeys, by injection List.inj_on_of_nodup_map h.list.1 hp.2 hx rfl⟩
    next => exact hp.elim

/-- A pending RESYNC is that of the live exchange (R59, R74). -/
theorem Channel.Fits.hunts_of_pending {r : Channel} (h : r.Fits) {x : BitVec 64} (hx : .resync x ∈ r.pendingCells) :
    r.state = .active ∧ r.sync = .hunt ∧ r.resyncTimer = none ∧ ∃ y, r.challenge = some y := by
  have he := h.exchange
  have hno : ¬ r.NonePending .challenge := fun hn => hn _ hx rfl
  cases hc : r.challenge <;> simp only [Channel.ExchangeFits, hc] at he
  case none => exact absurd he.2.2 hno
  case some y =>
    obtain ⟨ha, hsync, ⟨ht, -⟩ | ⟨-, hn⟩⟩ := he
    · exact ⟨ha, hsync, ht, y, rfl⟩
    · exact absurd hn hno

/-- A pending MARK is that of an ACTIVE channel (R59, R81). -/
theorem Channel.Fits.active_of_pending {r : Channel} (h : r.Fits) {x : BitVec 64} (hx : .mark x ∈ r.pendingCells) :
    r.state = .active :=
  h.list.2.resolve_right fun hn => hn _ hx rfl

/-- Every cell of a record's pending list can be formed (R59). -/
theorem Channel.Fits.formControl_isSome {r : Channel} (h : r.Fits) {x : ControlCell} (hx : x ∈ r.pendingCells)
    (c : Fin 48) : (r.formControl c x).isSome := by
  have ht := h.triggerable_of_pending (List.ne_nil_of_mem hx)
  obtain ⟨shop, hshop⟩ := Option.isSome_iff_exists.1 (h.owner (by
    rcases (triggerable_iff r).1 ht with hs | hs <;> simp [hs])).2.2
  cases x with
  | offer epoch nonce =>
    rcases h.entries_of_triggerable ht with ⟨hk, -, -, hb, -⟩ | ⟨ha, hc, -⟩
    · obtain ⟨key, hkey⟩ := Option.isSome_iff_exists.1 hb
      simp [Channel.formControl, Channel.offerKey, hk, hkey, hshop]
    · obtain ⟨e, he⟩ := Option.isSome_iff_exists.1 hc
      simp [Channel.formControl, Channel.offerKey, ha, he, hshop]
  | switch epoch =>
    obtain ⟨-, -, -, p, keys, hp, hkeys, -⟩ := h.agreed_of_pending hx
    rw [formControl_switch hp hkeys]
    rfl
  | resync y =>
    obtain ⟨e, he⟩ := Option.isSome_iff_exists.1 (h.active (h.hunts_of_pending hx).1).1
    simp [Channel.formControl, he]
  | mark y =>
    obtain ⟨e, he⟩ := Option.isSome_iff_exists.1 (h.active (h.active_of_pending hx)).1
    simp [Channel.formControl, he]

/-- Step 6 of a key installation leaves an exchange that fits, and ends none but with the entries pending for it. -/
theorem Channel.ExchangeFits.installSync {r : Channel} (h : r.ExchangeFits) :
    r.installSync.ExchangeFits ∧ (r.challenge = none → r.installSync.challenge = none) ∧
      r.installSync.pendingCells.Sublist r.pendingCells := by
  unfold Channel.installSync
  split
  · exact ⟨h, id, .refl _⟩
  · exact ⟨⟨rfl, rfl, nonePending_withdraw r .challenge⟩, fun _ => rfl, List.filter_sublist⟩

/-- Step 6 touches neither the channel state nor what a record is bound to. -/
theorem installSync_leaves (r : Channel) :
    r.installSync.state = r.state ∧ r.installSync.serving = r.serving ∧ r.installSync.master = r.master ∧
      r.installSync.shop = r.shop ∧ r.installSync.base = r.base ∧ r.installSync.previous = r.previous ∧
      r.installSync.offerTimer = r.offerTimer := by
  unfold Channel.installSync
  split <;> exact ⟨rfl, rfl, rfl, rfl, rfl, rfl, rfl⟩

/-- The list of an exchange that fits, once an entry of another family has left it. -/
theorem Channel.ExchangeFits.tail {r : Channel} {x : ControlCell} {rest : List ControlCell} (h : r.ExchangeFits)
    (hcells : r.pendingCells = x :: rest) (hf : x.family ≠ .challenge) :
    { r with pendingCells := rest }.ExchangeFits :=
  h.of_pending rfl rfl rfl rfl (.inl rfl) fun _ hy => mem_tail_of_family hcells (hy ▸ hf.symm)

/-- The SWITCH of an ACTIVE record leaves CUTOVER with the old entry as the previous one (R112). -/
theorem Channel.Fits.install {r : Channel} {epoch : BitVec 8} {rest : List ControlCell} (h : r.Fits)
    (hcells : r.pendingCells = .switch epoch :: rest) (ha : r.state = .active) (keys : KeyPair) (cutover : Nat) :
    ({ r with pendingCells := rest }.install epoch keys cutover).Fits := by
  obtain ⟨-, -, ht, -⟩ := h.agreed_of_pending (hcells ▸ List.mem_cons_self)
  obtain ⟨hx, -, hsub⟩ := (h.exchange.tail hcells nofun).installSync
  obtain ⟨hs, hserving, hmaster, hshop, hb, -, ho⟩ := installSync_leaves { r with pendingCells := rest }
  have hl : { r with pendingCells := rest }.ListFits := h.list.sublist id (hcells ▸ List.sublist_cons_self _ _)
  refine ⟨?_, ⟨rfl, ho.trans ht, ?_, fun y hy => h.list.nonePending_tail hcells y (hsub.subset hy)⟩, hx, fun _ => ?_,
    hl.sublist (fun _ => hs.trans ha) hsub⟩
  · have hstate : ({ r with pendingCells := rest }.install epoch keys cutover).state = .active := hs.trans ha
    simp only [Channel.EntriesFit, hstate]
    exact ⟨rfl, hb.trans (h.active ha).2⟩
  · simpa [Channel.install] using (h.active ha).1
  · have howner := h.owner (by simp [ha])
    simpa only [Channel.install, hserving, hmaster, hshop] using howner

/-- The SWITCH of a KEYING record makes it ACTIVE in IDLE, with the base entry erased (R113). -/
theorem Channel.Fits.installInitial {r : Channel} {epoch : BitVec 8} {rest : List ControlCell} (h : r.Fits)
    (hcells : r.pendingCells = .switch epoch :: rest) (hk : r.state = .keying) (keys : KeyPair) :
    ({ r with pendingCells := rest }.installInitial epoch keys).Fits := by
  obtain ⟨-, hp, ht, -⟩ := h.agreed_of_pending (hcells ▸ List.mem_cons_self)
  obtain ⟨hx, hnone, hsub⟩ := (h.exchange.tail hcells nofun).installSync
  obtain ⟨-, hserving, hmaster, hshop, -, hprev, ho⟩ := installSync_leaves { r with pendingCells := rest }
  have hl : { r with pendingCells := rest }.ListFits := h.list.sublist id (hcells ▸ List.sublist_cons_self _ _)
  have hch : r.challenge = none := by
    have he := h.entries
    simp only [Channel.EntriesFit, hk] at he
    exact he.2.2.2
  refine ⟨⟨rfl, rfl⟩, ⟨rfl, ho.trans ht, hprev.trans hp, fun y hy => h.list.nonePending_tail hcells y (hsub.subset hy)⟩,
    ?_, fun _ => ?_, hl.sublist (fun _ => rfl) hsub⟩
  · simp only [Channel.ExchangeFits, hnone hch] at hx
    simpa only [Channel.ExchangeFits, Channel.installInitial, hnone hch] using hx
  · have howner := h.owner (by simp [hk])
    simpa only [Channel.installInitial, hserving, hmaster, hshop] using howner

/-- Sending the oldest pending cell keeps the law (R75, R106, R112, R113, R128). -/
theorem Channel.Fits.sent {r : Channel} {x : ControlCell} {rest : List ControlCell} (h : r.Fits)
    (hcells : r.pendingCells = x :: rest) (p : RenewalParams) : ({ r with pendingCells := rest }.sent x p).Fits := by
  have hx : x ∈ r.pendingCells := hcells ▸ List.mem_cons_self
  have hl : { r with pendingCells := rest }.ListFits := h.list.sublist id (hcells ▸ List.sublist_cons_self _ _)
  have hn := h.list.nonePending_tail hcells
  have ht := h.triggerable_of_pending (List.ne_nil_of_mem hx)
  cases x with
  | offer epoch nonce =>
    obtain ⟨hr, hprev, -, p, hp, hkeys⟩ := h.offered_of_pending hx
    refine ⟨h.entriesFit_of_triggerable ht rfl rfl id rfl id, ?_, h.exchange.tail hcells nofun, h.owner, hl⟩
    simp only [Channel.RenewalFits, Channel.sent, hr, hp]
    exact ⟨hprev, hkeys, .inr ⟨rfl, hn⟩⟩
  | switch epoch =>
    obtain ⟨-, -, -, p, keys, hp, hkeys, rfl⟩ := h.agreed_of_pending hx
    rcases h.entries_of_triggerable ht with ⟨hk, -⟩ | ⟨ha, -⟩
    · simpa only [Channel.sent, switchSent_of_keying (r := { r with pendingCells := rest }) hp hkeys hk] using
        h.installInitial hcells hk keys
    · simpa only [Channel.sent, switchSent_of_not_keying (r := { r with pendingCells := rest }) hp hkeys
        (by simp [ha])] using h.install hcells ha keys _
  | resync y =>
    obtain ⟨ha, hsync, -, z, hz⟩ := h.hunts_of_pending hx
    refine h.resynced ha ?_ hl rfl rfl rfl rfl rfl rfl .rfl ⟨rfl, rfl, rfl⟩
      fun w hw => mem_tail_of_family hcells (hw ▸ nofun)
    simp only [Channel.ExchangeFits, Channel.sent, hz]
    exact ⟨ha, hsync, .inr ⟨rfl, hn⟩⟩
  | mark y =>
    exact h.resynced (h.active_of_pending hx) (h.exchange.tail hcells nofun) hl rfl rfl rfl rfl rfl rfl .rfl
      ⟨rfl, rfl, rfl⟩ fun w hw => mem_tail_of_family hcells (hw ▸ nofun)

/-! ## Ticks (R28) -/

/-- A tick's counts leave which timers run and which entries there are. -/
theorem Channel.Fits.tick {r : Channel} (h : r.Fits) (kind : TickKind) : (r.tick kind).Fits := by
  by_cases hs : r.state = .closed
  · have hclosed : r = Channel.closedValues := by simpa only [Channel.EntriesFit, hs] using h.entries
    rw [hclosed, closedValues_tick]
    exact closedValues_fits
  have hcounted : r.everyTick.Fits :=
    h.with_counts hs (current := r.everyTick.current) (quality := r.quality) (by simp [Channel.everyTick]) rfl
      (fun h0 => by simp [h0]) rfl rfl
  cases kind
  case beat => exact hcounted
  case marker =>
    exact hcounted.with_counts hs rfl (previous := r.everyTick.markerTick.previous) (by simp [Channel.markerTick]) id
      (offerTimer := r.everyTick.markerTick.offerTimer) (by simp [Channel.markerTick, countDown])
      (resyncTimer := r.everyTick.markerTick.resyncTimer) (by simp [Channel.markerTick, countDown])
      (quality := r.everyTick.markerTick.quality)

end Sys2Proof.Machine
end

section
/-! PROOFS. What an event may make of one record. `State.RecordMove` lists the changes of a record, each under the condition
on which the part makes it; and each law of a record is kept by each change. -/

namespace Sys2Proof.Machine

/-! ## The changes of a record -/

/-- One change of the record of channel c, on the state s: the record that the operation named leaves. -/
inductive State.RecordMove (s : State) (c : Fin 48) : Channel → Prop
  /-- the quality state: outcomes, scores, the storm mark, silence (R139, R141, R145, R147) -/
  | quality (q : Quality) (hopen : s.RecordsSound → s.ParamsSound → (s.chan c).state ≠ .closed)
      (hq : (s.chan c).quality.Fits → q.Fits) : RecordMove s c { s.chan c with quality := q }
  /-- SET_CHANNEL (R16) -/
  | parameters (preset ageLimit : Nat) (hopen : (s.chan c).state ≠ .closed) :
      RecordMove s c { s.chan c with preset := clampPreset preset, ageLimit := clampAgeLimit ageLimit }
  /-- SEND (R17) -/
  | queued (x : OutboundCell) (hopen : (s.chan c).state ≠ .closed) (hroom : (s.chan c).outbound.length < 8)
      (hx : 1 ≤ x.length ∧ x.length ≤ 48) :
      RecordMove s c { s.chan c with outbound := (s.chan c).outbound ++ [x] }
  /-- a trigger (R101) -/
  | noted (k : Cause) (ht : (s.chan c).triggerable = true) : RecordMove s c ((s.chan c).note k)
  /-- the start of a renewal (R105) -/
  | started (nonce : BitVec 64) (hd : (s.chan c).startDue = true) :
      RecordMove s c ((s.chan c).startRenewal s.renewalParams.retryLimit nonce)
  /-- a renewal that ends in failure (R108) -/
  | failed (ht : (s.chan c).offerTimer.isSome) : RecordMove s c ((s.chan c).failRenewal s.renewalParams.tOffer)
  /-- an OFFER queued again (R107) -/
  | offeredAgain (ht : (s.chan c).offerTimer.isSome) : RecordMove s c (s.chan c).requeueOffer
  /-- a verified ACCEPT (R110) -/
  | agreed (p : PendingEntry) (keys : KeyPair) (hr : (s.chan c).renewal = .offered)
      (hp : (s.chan c).pendingEntry = some p) : RecordMove s c ((s.chan c).agree p keys)
  /-- the oldest pending cell is sent (R75, R106, R112, R113, R128) -/
  | sent (x : ControlCell) (rest : List ControlCell) (hcells : (s.chan c).pendingCells = x :: rest) :
      RecordMove s c ({ s.chan c with pendingCells := rest }.sent x s.renewalParams)
  /-- the end of a cutover (R115) -/
  | cutOver (hp : (s.chan c).previous.isSome) : RecordMove s c (s.chan c).endCutover
  /-- the last count of the hold-off (R104) -/
  | heldOff : RecordMove s c { s.chan c with holdOff := 0 }
  /-- entry to KEYING (R11, R116) -/
  | enteredKeying (hs : (s.chan c).state = .opening) : RecordMove s c ((s.chan c).enterKeying (s.derivedBase c))
  /-- a DATA or PAD cell is sent, and the channel is HELD at the hard limit (R20, R21) -/
  | sentData (e : CurrentEntry) (ha : (s.chan c).state = .active) (hh : (s.chan c).held = false)
      (he : (s.chan c).current = some e) :
      RecordMove s c { (s.chan c).afterSend e with held := decide (e.nextTx + 1 = Config.hardLimit) }
  /-- HARD_LIMIT alone (R21) -/
  | holds (hl : (s.chan c).atHardLimit = true) : RecordMove s c { s.chan c with held := true }
  /-- the sync-loss count rises or is cleared (R68, R72) -/
  | countedSyncLoss (n : Nat) (ha : (s.chan c).state = .active) (hn : n ≤ 15) :
      RecordMove s c { s.chan c with syncLoss := n }
  /-- loss of sync (R73) -/
  | lostSync (x : BitVec 64) (ha : (s.chan c).state = .active) :
      RecordMove s c ((s.chan c).loseSync x s.renewalParams.retryLimit)
  /-- a RESYNC queued again (R76) -/
  | resyncedAgain (ht : (s.chan c).resyncTimer.isSome) : RecordMove s c (s.chan c).requeueResync
  /-- an exchange that ends with its timer (R76) -/
  | exchangeEnded (ht : (s.chan c).resyncTimer.isSome) : RecordMove s c (s.chan c).endExchange
  /-- an exchange that ends in QUARANTINE or SUSPENDED (R77, R146) -/
  | resynced (x : SyncState) (ha : (s.chan c).state = .active) :
      RecordMove s c { (s.chan c).endExchange with sync := x, syncLoss := 0 }
  /-- the window of an entry moves (R68, R77) -/
  | window (isCurrent : Bool) (w : Window) (ha : (s.chan c).state = .active) (hw : (s.chan c).WindowsFit → w.Fits) :
      RecordMove s c ((s.chan c).setWindow isCurrent w)
  /-- a MARK queued in answer to a RESYNC (R81) -/
  | answered (x : BitVec 64) (ha : (s.chan c).state = .active) : RecordMove s c ((s.chan c).queueCell (.mark x))
  /-- RESUME (R80) -/
  | resumed (hs : (s.chan c).sync = .suspended) : RecordMove s c { s.chan c with sync := .sync }
  /-- OPEN (R10) -/
  | opened (m : Fin 4) (shop : BitVec 32) (q : Service) (hs : (s.chan c).state = .closed) (hm : s.masters[m] ≠ .empty)
      (hshop : shop ≠ 0) : RecordMove s c (Channel.opened m shop q)
  /-- the end of CLOSING (R14) -/
  | closed (hs : (s.chan c).state = .closing) : RecordMove s c Channel.closedValues

/-! ## Each change keeps the parts of the record together -/

/-- The base entry can be derived for a bound channel (R88, R89). -/
theorem derivedBase_isSome {s : State} (h : s.RecordsSound) {c : Fin 48} (hs : (s.chan c).state ≠ .closed) :
    (s.derivedBase c).isSome := by
  obtain ⟨m, hm, hloaded⟩ := h.binding c hs
  obtain ⟨shop, hshop⟩ := Option.isSome_iff_exists.1 ((h.records c).owner hs).2.2
  cases hslot : s.masters[m] with
  | empty => exact absurd hslot hloaded
  | loaded key check => simp [derivedBase_of_loaded hm hslot hshop]

theorem Channel.Fits.setWindow {r : Channel} (h : r.Fits) (hs : r.state ≠ .closed) (isCurrent : Bool) (w : Window) :
    (r.setWindow isCurrent w).Fits := by
  cases isCurrent
  · exact h.with_entries hs rfl (previous := r.previous.map fun e => { e with window := w }) (by simp)
  · exact h.with_entries hs (current := r.current.map fun e => { e with window := w }) (by simp) rfl

theorem State.RecordMove.fits {s : State} {c : Fin 48} {x : Channel} (m : s.RecordMove c x) (h : s.RecordsSound)
    (hp : s.ParamsSound) : x.Fits := by
  have hf := h.records c
  cases m with
  | quality q hopen hq => exact hf.with_rest (hopen h hp) q _ _ _ _
  | parameters preset ageLimit hopen => exact hf.with_rest hopen _ (clampPreset preset) (clampAgeLimit ageLimit) _ _
  | queued x hopen hroom hx => exact hf.with_rest hopen _ _ _ _ _
  | noted k ht => exact hf.note ht k
  | started nonce hd => exact hf.startRenewal hd _ nonce
  | failed ht => exact hf.failRenewal ht _
  | offeredAgain ht => exact hf.requeueOffer ht
  | agreed p keys hr hpend => exact hf.agree hr p keys
  | sent x rest hcells => exact hf.sent hcells _
  | cutOver hprev => exact hf.endCutover hprev
  | heldOff => exact hf.with_holdOff
  | enteredKeying hs => exact hf.enterKeying hs (derivedBase_isSome h (by simp [hs]))
  | sentData e ha hh he =>
    exact ((hf.with_entries (by simp [ha]) (current := some { e with nextTx := e.nextTx + 1 }) (by simp [he])
      rfl).with_rest (by simp [ha]) _ _ _ _ (s.chan c).outbound.tail).with_held ha _
  | holds hl =>
    have ha : (s.chan c).state = .active := by
      unfold Channel.atHardLimit at hl
      split at hl
      · simp_all
      · cases hl
    exact hf.with_held ha true
  | countedSyncLoss n ha hn => exact hf.with_rest (by simp [ha]) _ _ _ n _
  | lostSync x ha => exact hf.loseSync ha x _
  | resyncedAgain ht => exact hf.requeueResync ht
  | exchangeEnded ht => exact hf.endExchange_of_timer ht
  | resynced x ha => exact hf.endExchange ha x 0
  | window isCurrent w ha hw => exact hf.setWindow (by simp [ha]) isCurrent w
  | answered x ha => exact hf.queueMark ha x
  | resumed hs => exact hf.resume hs
  | opened m shop q hs hm hshop => exact Channel.opened_fits m shop q
  | closed hs => exact closedValues_fits

/-! ## What the changes that split on a record's fields leave -/

/-- An OFFER queued again changes pending list, retries and timer only. -/
theorem requeueOffer_eq (r : Channel) :
    ∃ cells, r.requeueOffer =
      { r with pendingCells := cells, renewRetries := r.renewRetries - 1, offerTimer := none } := by
  unfold Channel.requeueOffer
  dsimp only
  split <;> exact ⟨_, rfl⟩

/-- A RESYNC queued again changes pending list, retries and timer only. -/
theorem requeueResync_eq (r : Channel) :
    ∃ cells, r.requeueResync =
      { r with pendingCells := cells, resyncRetries := r.resyncRetries - 1, resyncTimer := none } := by
  unfold Channel.requeueResync
  dsimp only
  split <;> exact ⟨_, rfl⟩

/-- Sending a SWITCH installs a pending entry that holds keys, by the state of the channel, and does nothing without one. -/
theorem switchSent_cases (r : Channel) (cutover : Nat) :
    r.switchSent cutover = r ∨
      ∃ p keys, r.pendingEntry = some p ∧ p.keys = some keys ∧
        ((r.state = .keying ∧ r.switchSent cutover = r.installInitial p.epoch keys) ∨
          (r.state ≠ .keying ∧ r.switchSent cutover = r.install p.epoch keys cutover)) := by
  cases hp : r.pendingEntry with
  | none => exact .inl (by simp only [Channel.switchSent, hp])
  | some p =>
    cases hkeys : p.keys with
    | none =>
      obtain ⟨_, _, _⟩ := p
      subst hkeys
      exact .inl (by simp only [Channel.switchSent, hp])
    | some keys =>
      refine .inr ⟨p, keys, rfl, hkeys, ?_⟩
      by_cases hs : r.state = .keying
      · exact .inl ⟨hs, switchSent_of_keying hp hkeys hs cutover⟩
      · exact .inr ⟨hs, switchSent_of_not_keying hp hkeys hs cutover⟩

/-- Hitting the hard limit is for an ACTIVE record whose next tx sequence stands there (R21). -/
theorem atHardLimit_iff (r : Channel) :
    r.atHardLimit = true ↔ r.state = .active ∧ ∃ e, r.current = some e ∧ e.nextTx = 16776960 := by
  unfold Channel.atHardLimit
  cases r.current with
  | none => simp
  | some e =>
    rw [Bool.and_eq_true, decide_eq_true_eq, decide_eq_true_eq]
    simp [Config.hardLimit]

/-! ## Where a change leaves the channel state, the serving port and the master slot -/

/-- A change leaves an ACTIVE channel ACTIVE and its serving port as it is (R2, R24). -/
theorem State.RecordMove.keeps_active {s : State} {c : Fin 48} {x : Channel} (m : s.RecordMove c x)
    (ha : (s.chan c).state = .active) : x.state = .active ∧ x.serving = (s.chan c).serving := by
  cases m with
  | sent y rest hcells =>
    cases y with
    | switch epoch =>
      rcases switchSent_cases { s.chan c with pendingCells := rest } s.renewalParams.cutover with
        h | ⟨p, keys, -, -, ⟨hk, -⟩ | ⟨-, h⟩⟩
      · rw [Channel.sent, h]
        exact ⟨ha, rfl⟩
      · simp [ha] at hk
      · simpa [Channel.sent, h, Channel.install, installSync_eq] using ha
    | _ => exact ⟨ha, rfl⟩
  | offeredAgain =>
    obtain ⟨_, h⟩ := requeueOffer_eq (s.chan c)
    rw [h]
    exact ⟨ha, rfl⟩
  | resyncedAgain =>
    obtain ⟨_, h⟩ := requeueResync_eq (s.chan c)
    rw [h]
    exact ⟨ha, rfl⟩
  | window isCurrent => cases isCurrent <;> exact ⟨ha, rfl⟩
  | enteredKeying hs => simp [ha] at hs
  | opened _ _ _ hs => simp [ha] at hs
  | closed hs => simp [ha] at hs
  | _ => exact ⟨ha, rfl⟩

/-- A channel that a change leaves open was open and bound before, or is opened on a LOADED slot (R88). -/
theorem State.RecordMove.bound {s : State} {c : Fin 48} {x : Channel} (m : s.RecordMove c x) (hx : x.state ≠ .closed) :
    ((s.chan c).state ≠ .closed ∧ x.master = (s.chan c).master) ∨ ∃ n, x.master = some n ∧ s.masters[n] ≠ .empty := by
  cases m with
  | sent y rest hcells =>
    left
    cases y with
    | switch epoch =>
      rcases switchSent_cases { s.chan c with pendingCells := rest } s.renewalParams.cutover with
        h | ⟨p, keys, -, -, ⟨hk, h⟩ | ⟨-, h⟩⟩ <;> rw [Channel.sent, h] at hx ⊢
      · exact ⟨hx, rfl⟩
      · simp only at hk
        simp [hk, Channel.installInitial, installSync_eq]
      · simpa [Channel.install, installSync_eq] using hx
    | _ => exact ⟨hx, rfl⟩
  | offeredAgain =>
    obtain ⟨_, h⟩ := requeueOffer_eq (s.chan c)
    rw [h] at hx ⊢
    exact .inl ⟨hx, rfl⟩
  | resyncedAgain =>
    obtain ⟨_, h⟩ := requeueResync_eq (s.chan c)
    rw [h] at hx ⊢
    exact .inl ⟨hx, rfl⟩
  | window isCurrent => cases isCurrent <;> exact .inl ⟨hx, rfl⟩
  | enteredKeying hs => exact .inl ⟨by simp [hs], rfl⟩
  | opened n _ _ _ hm => exact .inr ⟨n, rfl, hm⟩
  | closed => exact absurd rfl hx
  | _ => exact .inl ⟨hx, rfl⟩

/-! ## Windows and sequences (R5, R21, R61) -/

theorem Window.empty_fits : Window.empty.Fits := rfl

/-- A key installation keeps the old window for the previous entry and begins with an empty one (R112, R113). -/
theorem Channel.WindowsFit.switchSent {r : Channel} (h : r.WindowsFit) (cutover : Nat) :
    (r.switchSent cutover).WindowsFit := by
  rcases switchSent_cases r cutover with e | ⟨p, keys, -, -, ⟨-, e⟩ | ⟨-, e⟩⟩ <;> rw [e]
  · exact h
  · exact ⟨fun e he => by obtain rfl := Option.some.inj he; exact Window.empty_fits,
      fun p hp => h.previous p (by simpa [Channel.installInitial, installSync_eq] using hp)⟩
  · refine ⟨fun e he => by obtain rfl := Option.some.inj he; exact Window.empty_fits, fun p hp => ?_⟩
    obtain ⟨e, he, rfl⟩ := Option.map_eq_some_iff.1 hp
    exact h.current e he

theorem Channel.WindowsFit.setWindow {r : Channel} (h : r.WindowsFit) (isCurrent : Bool) {w : Window} (hw : w.Fits) :
    (r.setWindow isCurrent w).WindowsFit := by
  cases isCurrent
  · refine ⟨h.current, fun p hp => ?_⟩
    obtain ⟨e, -, rfl⟩ := Option.map_eq_some_iff.1 hp
    exact hw
  · refine ⟨fun e he => ?_, h.previous⟩
    obtain ⟨e, -, rfl⟩ := Option.map_eq_some_iff.1 he
    exact hw

theorem State.RecordMove.windowsFit {s : State} {c : Fin 48} {x : Channel} (m : s.RecordMove c x)
    (h : (s.chan c).WindowsFit) : x.WindowsFit := by
  cases m with
  | sent y rest hcells =>
    cases y with
    | switch epoch => exact Channel.WindowsFit.switchSent (r := { s.chan c with pendingCells := rest }) ⟨h.1, h.2⟩ _
    | _ => exact ⟨h.current, h.previous⟩
  | offeredAgain =>
    obtain ⟨_, e⟩ := requeueOffer_eq (s.chan c)
    rw [e]
    exact ⟨h.current, h.previous⟩
  | resyncedAgain =>
    obtain ⟨_, e⟩ := requeueResync_eq (s.chan c)
    rw [e]
    exact ⟨h.current, h.previous⟩
  | window isCurrent w _ hw => exact h.setWindow isCurrent (hw h)
  | cutOver => exact ⟨h.current, nofun⟩
  | sentData e _ _ he =>
    refine ⟨fun e' he' => ?_, h.previous⟩
    obtain rfl := Option.some.inj he'
    exact h.current e he
  | opened => exact ⟨nofun, nofun⟩
  | closed => exact ⟨nofun, nofun⟩
  | _ => exact ⟨h.current, h.previous⟩

/-- What the law of sequences says of a record depends on its current entry and its HELD mark. -/
theorem Channel.SequenceFits.congr {r x : Channel} (h : r.SequenceFits)
    (hc : x.current.map (·.nextTx) = r.current.map (·.nextTx)) (hh : x.held = r.held) : x.SequenceFits := by
  unfold Channel.SequenceFits at h ⊢
  cases hr : r.current <;> cases hx : x.current <;> simp_all

theorem Channel.SequenceFits.switchSent {r : Channel} (h : r.SequenceFits) (cutover : Nat) :
    (r.switchSent cutover).SequenceFits := by
  rcases switchSent_cases r cutover with e | ⟨p, keys, -, -, ⟨-, e⟩ | ⟨-, e⟩⟩ <;> rw [e]
  · exact h
  · simp [Channel.SequenceFits, Channel.installInitial, freshEntry]
  · simp [Channel.SequenceFits, Channel.install, freshEntry]

theorem State.RecordMove.sequenceFits {s : State} {c : Fin 48} {x : Channel} (m : s.RecordMove c x)
    (h : (s.chan c).SequenceFits) : x.SequenceFits := by
  cases m with
  | sent y rest hcells =>
    cases y with
    | switch epoch => exact (h.congr (x := { s.chan c with pendingCells := rest }) rfl rfl).switchSent _
    | _ => exact h.congr rfl rfl
  | offeredAgain =>
    obtain ⟨_, e⟩ := requeueOffer_eq (s.chan c)
    rw [e]
    exact h.congr rfl rfl
  | resyncedAgain =>
    obtain ⟨_, e⟩ := requeueResync_eq (s.chan c)
    rw [e]
    exact h.congr rfl rfl
  | window isCurrent w =>
    cases isCurrent
    · exact h.congr rfl rfl
    · exact h.congr (by simp [Channel.setWindow, Function.comp_def]) rfl
  | sentData e _ hh he =>
    simp only [Channel.SequenceFits, he, hh] at h
    have hlt : e.nextTx + 1 ≤ 16776960 := by
      have : e.nextTx ≠ 16776960 := fun heq => by simp [heq] at h
      omega
    simpa [Channel.SequenceFits, Channel.afterSend, Config.hardLimit] using hlt
  | holds hl =>
    obtain ⟨-, e, he, hlimit⟩ := (atHardLimit_iff _).1 hl
    simp [Channel.SequenceFits, he, hlimit]
  | opened => rfl
  | closed => rfl
  | _ => exact h.congr rfl rfl

end Sys2Proof.Machine
end

section
/-! PROOFS. Epochs (R98) and ranges (R1, R6, R7, R18, R72, R74, R97, R138) of one record, change by change. -/

namespace Sys2Proof.Machine

/-! ## Epochs -/

/-- The epoch after another is never 0 (R98). -/
theorem epochAfter_ne_zero (e : BitVec 8) : epochAfter e ≠ 0 := by
  unfold epochAfter
  split
  · decide
  · intro h
    exact ‹¬ e = 255› (by bv_omega)

theorem newEpoch_ne_zero (r : Channel) : r.newEpoch ≠ 0 := by
  unfold Channel.newEpoch
  split
  · exact epochAfter_ne_zero _
  · decide

theorem newEpoch_congr {r x : Channel} (h : x.current.map (·.key.epoch) = r.current.map (·.key.epoch)) :
    x.newEpoch = r.newEpoch := by
  unfold Channel.newEpoch
  cases hr : r.current <;> cases hx : x.current <;> simp_all

/-- The current, previous and pending entries have epochs of 1 to 255 (R98). -/
structure Channel.EpochsNonzero (r : Channel) : Prop where
  current : ∀ e, r.current = some e → e.key.epoch ≠ 0
  previous : ∀ p, r.previous = some p → p.key.epoch ≠ 0
  pending : ∀ p, r.pendingEntry = some p → p.epoch ≠ 0

theorem Channel.EpochsFit.nonzero {r : Channel} (h : r.EpochsFit) : r.EpochsNonzero where
  current := h.current
  previous p hp := (h.previous p hp).1
  pending p hp := h.pending p hp ▸ newEpoch_ne_zero r

theorem Channel.EpochsNonzero.switchSent {r : Channel} (h : r.EpochsNonzero) (cutover : Nat) :
    (r.switchSent cutover).EpochsNonzero := by
  rcases switchSent_cases r cutover with e | ⟨p, keys, hp, -, ⟨-, e⟩ | ⟨-, e⟩⟩ <;> rw [e]
  · exact h
  · exact ⟨fun e he => by obtain rfl := Option.some.inj he; exact h.pending p hp,
      fun q hq => h.previous q (by simpa [Channel.installInitial, installSync_eq] using hq), nofun⟩
  · refine ⟨fun e he => by obtain rfl := Option.some.inj he; exact h.pending p hp, fun q hq => ?_, nofun⟩
    obtain ⟨e, he, rfl⟩ := Option.map_eq_some_iff.1 hq
    exact h.current e he

theorem Channel.EpochsNonzero.setWindow {r : Channel} (h : r.EpochsNonzero) (isCurrent : Bool) (w : Window) :
    (r.setWindow isCurrent w).EpochsNonzero := by
  cases isCurrent
  · refine ⟨h.current, fun p hp => ?_, h.pending⟩
    obtain ⟨e, he, rfl⟩ := Option.map_eq_some_iff.1 hp
    exact h.previous e he
  · refine ⟨fun e he => ?_, h.previous, h.pending⟩
    obtain ⟨e', he', rfl⟩ := Option.map_eq_some_iff.1 he
    exact h.current e' he'

theorem State.RecordMove.epochsNonzero {s : State} {c : Fin 48} {x : Channel} (m : s.RecordMove c x)
    (h : (s.chan c).EpochsNonzero) : x.EpochsNonzero := by
  cases m with
  | sent y rest hcells =>
    cases y with
    | switch epoch =>
      exact Channel.EpochsNonzero.switchSent (r := { s.chan c with pendingCells := rest }) ⟨h.1, h.2, h.3⟩ _
    | _ => exact ⟨h.current, h.previous, h.pending⟩
  | offeredAgain =>
    obtain ⟨_, e⟩ := requeueOffer_eq (s.chan c)
    rw [e]
    exact ⟨h.current, h.previous, h.pending⟩
  | resyncedAgain =>
    obtain ⟨_, e⟩ := requeueResync_eq (s.chan c)
    rw [e]
    exact ⟨h.current, h.previous, h.pending⟩
  | window isCurrent w => exact h.setWindow isCurrent w
  | started nonce =>
    refine ⟨h.current, h.previous, fun p hp => ?_⟩
    obtain rfl := Option.some.inj hp
    exact newEpoch_ne_zero _
  | agreed p keys hr hp =>
    refine ⟨h.current, h.previous, fun q hq => ?_⟩
    obtain rfl := Option.some.inj hq
    exact h.pending p hp
  | failed => exact ⟨h.current, h.previous, nofun⟩
  | cutOver => exact ⟨h.current, nofun, h.pending⟩
  | sentData e _ _ he =>
    refine ⟨fun e' he' => ?_, h.previous, h.pending⟩
    obtain rfl := Option.some.inj he'
    exact h.current e he
  | opened => exact ⟨nofun, nofun, nofun⟩
  | closed => exact ⟨nofun, nofun, nofun⟩
  | _ => exact ⟨h.current, h.previous, h.pending⟩

/-- What the law of epochs says of a record depends on the epochs of its four entries. -/
theorem Channel.EpochsFit.congr {r x : Channel} (h : r.EpochsFit) (hb : x.base = r.base)
    (hc : x.current.map (·.key.epoch) = r.current.map (·.key.epoch))
    (hp : ∀ p, x.pendingEntry = some p → ∃ p', r.pendingEntry = some p' ∧ p.epoch = p'.epoch)
    (hprev : ∀ p, x.previous = some p → ∃ p', r.previous = some p' ∧ p.key.epoch = p'.key.epoch) : x.EpochsFit := by
  have hcur : ∀ e, x.current = some e → ∃ e', r.current = some e' ∧ e.key.epoch = e'.key.epoch := by
    intro e he
    rw [he, Option.map_some] at hc
    obtain ⟨e', he', heq⟩ := Option.map_eq_some_iff.1 hc.symm
    exact ⟨e', he', heq.symm⟩
  refine ⟨fun e he => h.base e (hb ▸ he), fun e he => ?_, fun p hpend => ?_, fun p hpre => ?_⟩
  · obtain ⟨e', he', heq⟩ := hcur e he
    exact heq ▸ h.current e' he'
  · obtain ⟨p', hp', heq⟩ := hp p hpend
    rw [heq, newEpoch_congr hc]
    exact h.pending p' hp'
  · obtain ⟨p', hp', heq⟩ := hprev p hpre
    refine ⟨heq ▸ (h.previous p' hp').1, fun e he => ?_⟩
    obtain ⟨e', he', heq'⟩ := hcur e he
    rw [heq, heq']
    exact (h.previous p' hp').2 e' he'

/-- A key installation makes the pending epoch the current one and the current one the previous (R112, R113). -/
theorem Channel.EpochsFit.sentSwitch {r : Channel} (h : r.EpochsFit) (hf : r.Fits) {epoch : BitVec 8}
    {rest : List ControlCell} (hcells : r.pendingCells = .switch epoch :: rest) (cutover : Nat) :
    ({ r with pendingCells := rest }.switchSent cutover).EpochsFit := by
  have hx : .switch epoch ∈ r.pendingCells := hcells ▸ List.mem_cons_self
  obtain ⟨-, hprev, -, p, keys, hp, hkeys, -⟩ := hf.agreed_of_pending hx
  have hpend := h.pending p hp
  rcases hf.entries_of_triggerable (hf.triggerable_of_pending (List.ne_nil_of_mem hx)) with
    ⟨hk, hcur, -⟩ | ⟨ha, hcur, hbase⟩
  · rw [switchSent_of_keying (r := { r with pendingCells := rest }) hp hkeys hk]
    refine ⟨nofun, fun e he => ?_, nofun, fun q hq => ?_⟩
    · obtain rfl := Option.some.inj he
      exact hpend ▸ newEpoch_ne_zero r
    · simp [Channel.installInitial, installSync_eq, hprev] at hq
  · rw [switchSent_of_not_keying (r := { r with pendingCells := rest }) hp hkeys (by simp [ha])]
    refine ⟨fun b hb => ?_, fun e he => ?_, nofun, fun q hq => ?_⟩
    · simp [Channel.install, installSync_eq, hbase] at hb
    · obtain rfl := Option.some.inj he
      exact hpend ▸ newEpoch_ne_zero r
    · obtain ⟨e, he, rfl⟩ := Option.map_eq_some_iff.1 hq
      have he : r.current = some e := he
      refine ⟨h.current e he, fun e' he' => ?_⟩
      obtain rfl := Option.some.inj he'
      simpa [freshEntry, Channel.newEpoch, he] using hpend

theorem State.RecordMove.epochsFit {s : State} {c : Fin 48} {x : Channel} (m : s.RecordMove c x) (hf : (s.chan c).Fits)
    (h : (s.chan c).EpochsFit) : x.EpochsFit := by
  cases m with
  | sent y rest hcells =>
    cases y with
    | switch epoch => exact h.sentSwitch hf hcells _
    | _ => exact ⟨h.base, h.current, h.pending, h.previous⟩
  | offeredAgain =>
    obtain ⟨_, e⟩ := requeueOffer_eq (s.chan c)
    rw [e]
    exact ⟨h.base, h.current, h.pending, h.previous⟩
  | resyncedAgain =>
    obtain ⟨_, e⟩ := requeueResync_eq (s.chan c)
    rw [e]
    exact ⟨h.base, h.current, h.pending, h.previous⟩
  | window isCurrent w =>
    cases isCurrent
    · exact h.congr rfl rfl (fun p hp => ⟨p, hp, rfl⟩) fun p hp => by
        obtain ⟨p', hp', rfl⟩ := Option.map_eq_some_iff.1 hp
        exact ⟨p', hp', rfl⟩
    · exact h.congr rfl (by simp [Channel.setWindow, Function.comp_def]) (fun p hp => ⟨p, hp, rfl⟩)
        fun p hp => ⟨p, hp, rfl⟩
  | started nonce =>
    refine ⟨h.base, h.current, fun p hp => ?_, h.previous⟩
    obtain rfl := Option.some.inj hp
    rfl
  | agreed p keys hr hp =>
    refine ⟨h.base, h.current, fun q hq => ?_, h.previous⟩
    obtain rfl := Option.some.inj hq
    exact h.pending p hp
  | failed => exact ⟨h.base, h.current, nofun, h.previous⟩
  | cutOver => exact ⟨h.base, h.current, h.pending, nofun⟩
  | enteredKeying =>
    refine ⟨fun e he => ?_, h.current, h.pending, h.previous⟩
    have he : s.derivedBase c = some e := he
    unfold State.derivedBase at he
    split at he
    · obtain rfl := Option.some.inj he
      rfl
    · cases he
  | sentData e _ _ he =>
    exact h.congr rfl (by simp [Channel.afterSend, he]) (fun p hp => ⟨p, hp, rfl⟩) fun p hp => ⟨p, hp, rfl⟩
  | opened => exact ⟨nofun, nofun, nofun, nofun⟩
  | closed => exact ⟨nofun, nofun, nofun, nofun⟩
  | _ => exact ⟨h.base, h.current, h.pending, h.previous⟩

/-! ## Ranges -/

/-- The ranges of a record's fields, a timer at 0 allowed: within a tick a timer stands at 0 until its expiry is carried
out. -/
structure Channel.CountsInRange (r : Channel) : Prop where
  shop : ∀ n, r.shop = some n → n ≠ 0
  outbound : r.outbound.length ≤ 8
  lengths : ∀ x ∈ r.outbound, 1 ≤ x.length ∧ x.length ≤ 48
  preset : 1024 ≤ r.preset ∧ r.preset ≤ 16000000
  ageLimit : r.ageLimit = 0 ∨ (256 ≤ r.ageLimit ∧ r.ageLimit ≤ 4000000000)
  age : ∀ e, r.current = some e → e.age ≤ 4294967295
  holdOff : r.holdOff ≤ 8184
  offerTimer : ∀ n, r.offerTimer = some n → n ≤ 1023
  resyncTimer : ∀ n, r.resyncTimer = some n → n ≤ 1023
  cutover : ∀ p, r.previous = some p → p.cutover ≤ 255
  syncLoss : r.syncLoss ≤ 15
  retries : r.renewRetries ≤ 7 ∧ r.resyncRetries ≤ 7
  quality : r.quality.Fits

/-- No running timer of the record stands at 0. -/
structure Channel.NoTimerSpent (r : Channel) : Prop where
  offer : r.offerTimer ≠ some 0
  resync : r.resyncTimer ≠ some 0
  cutover : ∀ p, r.previous = some p → p.cutover ≠ 0

theorem inRange_iff (r : Channel) : r.InRange ↔ r.CountsInRange ∧ r.NoTimerSpent := by
  constructor
  · intro h
    refine ⟨⟨h.shop, h.outbound, h.lengths, h.preset, h.ageLimit, h.age, h.holdOff, fun n hn => (h.offerTimer n hn).2,
      fun n hn => (h.resyncTimer n hn).2, fun p hp => (h.cutover p hp).2, h.syncLoss, h.retries, h.quality⟩, ?_, ?_, ?_⟩
    · exact fun h0 => absurd (h.offerTimer 0 h0).1 (by decide)
    · exact fun h0 => absurd (h.resyncTimer 0 h0).1 (by decide)
    · exact fun p hp h0 => absurd (h.cutover p hp).1 (by omega)
  · rintro ⟨h, hz⟩
    refine ⟨h.shop, h.outbound, h.lengths, h.preset, h.ageLimit, h.age, h.holdOff, fun n hn => ⟨?_, h.offerTimer n hn⟩,
      fun n hn => ⟨?_, h.resyncTimer n hn⟩, fun p hp => ⟨?_, h.cutover p hp⟩, h.syncLoss, h.retries, h.quality⟩
    · exact Nat.one_le_iff_ne_zero.2 fun h0 => hz.offer (h0 ▸ hn)
    · exact Nat.one_le_iff_ne_zero.2 fun h0 => hz.resync (h0 ▸ hn)
    · exact Nat.one_le_iff_ne_zero.2 (hz.cutover p hp)

theorem clampPreset_range (n : Nat) : 1024 ≤ clampPreset n ∧ clampPreset n ≤ 16000000 := by
  simp only [clampPreset, clamp]
  omega

theorem clampAgeLimit_range (n : Nat) :
    clampAgeLimit n = 0 ∨ (256 ≤ clampAgeLimit n ∧ clampAgeLimit n ≤ 4000000000) := by
  simp only [clampAgeLimit]
  split_ifs <;> omega

theorem Quality.fresh_fits : Quality.fresh.Fits := by
  refine ⟨by decide, by decide, nofun, by decide, by decide⟩

theorem closedValues_countsInRange : Channel.closedValues.CountsInRange := by
  refine ⟨nofun, by decide, nofun, by decide, by decide, nofun, by decide, nofun, nofun, nofun, by decide, by decide,
    Quality.fresh_fits⟩

theorem closedValues_noTimerSpent : Channel.closedValues.NoTimerSpent := ⟨nofun, nofun, nofun⟩

theorem Channel.CountsInRange.switchSent {r : Channel} (h : r.CountsInRange) {cutover : Nat} (hc : cutover ≤ 255) :
    (r.switchSent cutover).CountsInRange := by
  have hsync : r.installSync.CountsInRange := by
    unfold Channel.installSync
    split
    · exact h
    · exact { h with resyncTimer := nofun, syncLoss := Nat.zero_le _, retries := ⟨h.retries.1, Nat.zero_le _⟩ }
  have hage (epoch keys) : ∀ e, some (freshEntry epoch keys) = some e → e.age ≤ 4294967295 := by
    intro e he
    obtain rfl := Option.some.inj he
    exact Nat.zero_le _
  rcases switchSent_cases r cutover with e | ⟨p, keys, -, -, ⟨-, e⟩ | ⟨-, e⟩⟩ <;> rw [e]
  · exact h
  · exact { hsync with age := hage _ _, holdOff := Nat.zero_le _ }
  · refine { hsync with age := hage _ _, holdOff := Nat.zero_le _, cutover := fun p hp => ?_ }
    obtain ⟨e, -, rfl⟩ := Option.map_eq_some_iff.1 hp
    exact hc

theorem State.RecordMove.countsInRange {s : State} {c : Fin 48} {x : Channel} (m : s.RecordMove c x)
    (hp : s.ParamsSound) (h : (s.chan c).CountsInRange) : x.CountsInRange := by
  have hretry := hp.retryLimit
  have hoffer := hp.tOffer.2
  cases m with
  | quality q _ hq => exact { h with quality := hq h.quality }
  | parameters preset ageLimit => exact { h with preset := clampPreset_range _, ageLimit := clampAgeLimit_range _ }
  | queued x _ hroom hx =>
    refine { h with outbound := ?_, lengths := fun y hy => ?_ }
    · simpa using hroom
    · rcases List.mem_append.1 hy with hy | hy
      · exact h.lengths y hy
      · exact List.mem_singleton.1 hy ▸ hx
  | noted => exact { h with }
  | started => exact { h with offerTimer := nofun, retries := ⟨hretry, h.retries.2⟩ }
  | failed =>
    exact { h with offerTimer := nofun, retries := ⟨Nat.zero_le _, h.retries.2⟩,
                   holdOff := by simp only [Channel.failRenewal]; omega }
  | offeredAgain =>
    obtain ⟨_, e⟩ := requeueOffer_eq (s.chan c)
    rw [e]
    exact { h with offerTimer := nofun, retries := ⟨(Nat.sub_le _ _).trans h.retries.1, h.retries.2⟩ }
  | agreed => exact { h with offerTimer := nofun }
  | sent y rest _ =>
    cases y with
    | switch epoch =>
      exact Channel.CountsInRange.switchSent (r := { s.chan c with pendingCells := rest }) { h with } hp.cutover.2
    | offer => exact { h with offerTimer := fun n hn => by obtain rfl := Option.some.inj hn; exact hoffer }
    | resync => exact { h with resyncTimer := fun n hn => by obtain rfl := Option.some.inj hn; exact hoffer }
    | mark => exact { h with }
  | cutOver => exact { h with cutover := nofun }
  | heldOff => exact { h with holdOff := Nat.zero_le _ }
  | enteredKeying => exact { h with quality := { h.quality with silence := Nat.zero_le _ } }
  | sentData e _ _ he =>
    refine { h with outbound := ?_, lengths := fun y hy => h.lengths y (List.mem_of_mem_tail hy), age := fun e' he' => ?_ }
    · exact (List.length_tail ▸ Nat.sub_le _ _).trans h.outbound
    · obtain rfl := Option.some.inj he'
      exact h.age e he
  | holds => exact { h with }
  | countedSyncLoss n _ hn => exact { h with syncLoss := hn }
  | lostSync => exact { h with resyncTimer := nofun, syncLoss := Nat.zero_le _, retries := ⟨h.retries.1, hretry⟩ }
  | resyncedAgain =>
    obtain ⟨_, e⟩ := requeueResync_eq (s.chan c)
    rw [e]
    exact { h with resyncTimer := nofun, retries := ⟨h.retries.1, (Nat.sub_le _ _).trans h.retries.2⟩ }
  | exchangeEnded => exact { h with resyncTimer := nofun, retries := ⟨h.retries.1, Nat.zero_le _⟩ }
  | resynced =>
    exact { h with resyncTimer := nofun, syncLoss := Nat.zero_le _, retries := ⟨h.retries.1, Nat.zero_le _⟩ }
  | window isCurrent w =>
    cases isCurrent
    · refine { h with cutover := fun p hp => ?_ }
      obtain ⟨p', hp', rfl⟩ := Option.map_eq_some_iff.1 hp
      exact h.cutover p' hp'
    · refine { h with age := fun e he => ?_ }
      obtain ⟨e', he', rfl⟩ := Option.map_eq_some_iff.1 he
      exact h.age e' he'
  | answered => exact { h with }
  | resumed => exact { h with }
  | opened m shop _ _ _ hshop =>
    exact { closedValues_countsInRange with shop := fun n hn => by obtain rfl := Option.some.inj hn; exact hshop }
  | closed => exact closedValues_countsInRange

/-! ## Timers that stand at 0 (R107, R76, R115) -/

/-- The offer timer stands at 0: it expires in this tick. -/
abbrev Channel.OfferSpent (r : Channel) : Prop := r.offerTimer = some 0

/-- The resync timer stands at 0. -/
abbrev Channel.ResyncSpent (r : Channel) : Prop := r.resyncTimer = some 0

/-- The cutover timer stands at 0. -/
abbrev Channel.CutoverSpent (r : Channel) : Prop := ∃ p, r.previous = some p ∧ p.cutover = 0

/-- No timer of x stands at 0 that does not stand there in r. -/
structure Channel.SpendsNoTimer (r x : Channel) : Prop where
  offer : x.OfferSpent → r.OfferSpent
  resync : x.ResyncSpent → r.ResyncSpent
  cutover : x.CutoverSpent → r.CutoverSpent

theorem noTimerSpent_iff (r : Channel) : r.NoTimerSpent ↔ ¬ r.OfferSpent ∧ ¬ r.ResyncSpent ∧ ¬ r.CutoverSpent :=
  ⟨fun h => ⟨h.offer, h.resync, fun ⟨p, hp, h0⟩ => h.cutover p hp h0⟩,
    fun ⟨ho, hr, hc⟩ => ⟨ho, hr, fun p hp h0 => hc ⟨p, hp, h0⟩⟩⟩

/-- A key installation starts the cutover timer at the parameter, which is not 0, and stops the resync timer or leaves
it. -/
theorem switchSent_spendsNoTimer (r : Channel) {cutover : Nat} (hc : 1 ≤ cutover) :
    r.SpendsNoTimer (r.switchSent cutover) := by
  have hresync : r.installSync.ResyncSpent → r.ResyncSpent := by
    unfold Channel.installSync
    split
    · exact id
    · exact nofun
  rcases switchSent_cases r cutover with e | ⟨p, keys, -, -, ⟨-, e⟩ | ⟨-, e⟩⟩ <;> rw [e]
  · exact ⟨id, id, id⟩
  · exact ⟨fun h => by simpa [Channel.installInitial, installSync_eq] using h, hresync,
      fun ⟨q, hq, h0⟩ => ⟨q, by simpa [Channel.installInitial, installSync_eq] using hq, h0⟩⟩
  · refine ⟨fun h => by simpa [Channel.install, installSync_eq] using h, hresync, fun ⟨q, hq, h0⟩ => ?_⟩
    obtain ⟨e, -, rfl⟩ := Option.map_eq_some_iff.1 hq
    exact absurd (show cutover = 0 from h0) (by omega)

theorem State.RecordMove.spendsNoTimer {s : State} {c : Fin 48} {x : Channel} (m : s.RecordMove c x)
    (hp : s.ParamsSound) : (s.chan c).SpendsNoTimer x := by
  have hoffer := hp.tOffer.1
  cases m with
  | started => exact ⟨nofun, id, id⟩
  | failed => exact ⟨nofun, id, id⟩
  | agreed => exact ⟨nofun, id, id⟩
  | offeredAgain =>
    obtain ⟨_, e⟩ := requeueOffer_eq (s.chan c)
    rw [e]
    exact ⟨nofun, id, id⟩
  | resyncedAgain =>
    obtain ⟨_, e⟩ := requeueResync_eq (s.chan c)
    rw [e]
    exact ⟨id, nofun, id⟩
  | sent y rest _ =>
    cases y with
    | switch epoch =>
      obtain ⟨ho, hr, hc⟩ := switchSent_spendsNoTimer { s.chan c with pendingCells := rest } hp.cutover.1
      exact ⟨ho, hr, hc⟩
    | offer => exact ⟨fun h => by have := Option.some.inj h; omega, id, id⟩
    | resync => exact ⟨id, fun h => by have := Option.some.inj h; omega, id⟩
    | mark => exact ⟨id, id, id⟩
  | cutOver => exact ⟨id, id, nofun⟩
  | lostSync => exact ⟨id, nofun, id⟩
  | exchangeEnded => exact ⟨id, nofun, id⟩
  | resynced => exact ⟨id, nofun, id⟩
  | window isCurrent w =>
    cases isCurrent
    · refine ⟨id, id, fun ⟨p, hp, h0⟩ => ?_⟩
      obtain ⟨p', hp', rfl⟩ := Option.map_eq_some_iff.1 hp
      exact ⟨p', hp', h0⟩
    · exact ⟨id, id, id⟩
  | opened => exact ⟨nofun, nofun, nofun⟩
  | closed => exact ⟨nofun, nofun, nofun⟩
  | _ => exact ⟨id, id, id⟩

/-! ## The count of a tick (R28) -/

/-- The epochs, keys and windows of the entries are what a tick leaves; it moves key age, cutover timer and nothing else of
them. -/
theorem tick_current (r : Channel) (kind : TickKind) :
    (r.tick kind).current = r.current.map fun e => { e with age := min 4294967295 (e.age + 1) } := by cases kind <;> rfl

theorem tick_previous (r : Channel) (kind : TickKind) :
    ∃ f : Nat → Nat, (r.tick kind).previous = r.previous.map (fun p => { p with cutover := f p.cutover }) ∧
      ∀ n, f n ≤ n := by
  cases kind
  · exact ⟨(· - 1), rfl, fun n => Nat.sub_le n 1⟩
  · exact ⟨id, by simp [Channel.tick, Channel.everyTick], fun n => le_rfl⟩

theorem tick_pendingEntry (r : Channel) (kind : TickKind) : (r.tick kind).pendingEntry = r.pendingEntry := by
  cases kind <;> rfl

theorem tick_base (r : Channel) (kind : TickKind) : (r.tick kind).base = r.base := by cases kind <;> rfl

theorem tick_held (r : Channel) (kind : TickKind) : (r.tick kind).held = r.held := by cases kind <;> rfl

theorem Channel.WindowsFit.tick {r : Channel} (h : r.WindowsFit) (kind : TickKind) : (r.tick kind).WindowsFit := by
  obtain ⟨f, hprev, -⟩ := tick_previous r kind
  refine ⟨fun e he => ?_, fun p hp => ?_⟩
  · rw [tick_current] at he
    obtain ⟨e', he', rfl⟩ := Option.map_eq_some_iff.1 he
    exact h.current e' he'
  · rw [hprev] at hp
    obtain ⟨p', hp', rfl⟩ := Option.map_eq_some_iff.1 hp
    exact h.previous p' hp'

theorem Channel.SequenceFits.tick {r : Channel} (h : r.SequenceFits) (kind : TickKind) : (r.tick kind).SequenceFits :=
  h.congr (by simp [tick_current, Function.comp_def]) (tick_held r kind)

theorem Channel.EpochsNonzero.tick {r : Channel} (h : r.EpochsNonzero) (kind : TickKind) :
    (r.tick kind).EpochsNonzero := by
  obtain ⟨f, hprev, -⟩ := tick_previous r kind
  refine ⟨fun e he => ?_, fun p hp => ?_, fun p hp => h.pending p (tick_pendingEntry r kind ▸ hp)⟩
  · rw [tick_current] at he
    obtain ⟨e', he', rfl⟩ := Option.map_eq_some_iff.1 he
    exact h.current e' he'
  · rw [hprev] at hp
    obtain ⟨p', hp', rfl⟩ := Option.map_eq_some_iff.1 hp
    exact h.previous p' hp'

theorem Channel.EpochsFit.tick {r : Channel} (h : r.EpochsFit) (kind : TickKind) : (r.tick kind).EpochsFit := by
  obtain ⟨f, hprev, -⟩ := tick_previous r kind
  refine h.congr (tick_base r kind) (by simp [tick_current, Function.comp_def])
    (fun p hp => ⟨p, tick_pendingEntry r kind ▸ hp, rfl⟩) fun p hp => ?_
  rw [hprev] at hp
  obtain ⟨p', hp', rfl⟩ := Option.map_eq_some_iff.1 hp
  exact ⟨p', hp', rfl⟩

theorem bump_le (n : Nat) : bump n ≤ 65535 := Nat.min_le_left _ _

theorem Channel.CountsInRange.everyTick {r : Channel} (h : r.CountsInRange) : r.everyTick.CountsInRange := by
  refine { h with age := fun e he => ?_, holdOff := (Nat.sub_le _ _).trans h.holdOff }
  obtain ⟨e', -, rfl⟩ := Option.map_eq_some_iff.1 he
  exact Nat.min_le_left _ _

theorem Channel.CountsInRange.markerTick {r : Channel} (h : r.CountsInRange) : r.markerTick.CountsInRange := by
  have hdown : ∀ t : Option Nat, (∀ n, t = some n → n ≤ 1023) → ∀ n, countDown t = some n → n ≤ 1023 := by
    intro t ht n hn
    obtain ⟨m, hm, rfl⟩ := Option.map_eq_some_iff.1 hn
    exact (Nat.sub_le _ _).trans (ht m hm)
  refine { h with offerTimer := hdown _ h.offerTimer, resyncTimer := hdown _ h.resyncTimer, cutover := fun p hp => ?_,
                  quality := { h.quality with silence := ?_ } }
  · obtain ⟨p', hp', rfl⟩ := Option.map_eq_some_iff.1 hp
    exact (Nat.sub_le _ _).trans (h.cutover p' hp')
  · show (if r.quality.silenceRunning then bump r.quality.silence else r.quality.silence) ≤ 65535
    split
    · exact bump_le _
    · exact h.quality.silence

theorem Channel.CountsInRange.tick {r : Channel} (h : r.CountsInRange) (kind : TickKind) :
    (r.tick kind).CountsInRange := by
  cases kind
  · exact h.everyTick.markerTick
  · exact h.everyTick

/-! ## The record that an adoption leaves (R24, R176) -/

/-- Adoption changes the serving port and the D count of a record. -/
def Channel.adopted (r : Channel) (n : Nat) (p : Service) : Channel := { r.countDropped n with serving := some p }

theorem Channel.Fits.adopted {r : Channel} (h : r.Fits) (hs : r.state ≠ .closed) (n : Nat) (p : Service) :
    (r.adopted n p).Fits := by
  have hq := h.with_rest hs (r.countDropped n).quality r.preset r.ageLimit r.syncLoss r.outbound
  refine ⟨?_, hq.renewal, hq.exchange, fun _ => ⟨rfl, (h.owner hs).2⟩, hq.list⟩
  have he := hq.entries
  revert he
  unfold Channel.EntriesFit
  cases hst : r.state
  case closed => exact absurd hst hs
  all_goals exact fun he => by simpa [Channel.adopted, Channel.countDropped, hst] using he

theorem Quality.Fits.countDropped {r : Channel} (h : r.quality.Fits) (n : Nat) : (r.countDropped n).quality.Fits := by
  obtain ⟨hg, ht, hj, he, hx, hr, -, hw, hi⟩ := h.counts
  exact { h with counts := ⟨hg, ht, hj, he, hx, hr, Nat.min_le_left _ _, hw, hi⟩ }

theorem Channel.CountsInRange.adopted {r : Channel} (h : r.CountsInRange) (n : Nat) (p : Service) :
    (r.adopted n p).CountsInRange := { h with quality := h.quality.countDropped n }

end Sys2Proof.Machine
end

section
/-! PROOFS. Receive windows (R61, R66, R68, R77) and the fault log (R153, R154, R156 to R159): what keeps them sound. -/

namespace Sys2Proof.Machine

/-! ## Receive windows -/

theorem mem_insertFalling {x q : Nat} {l : List Nat} : x ∈ insertFalling q l ↔ x = q ∨ x ∈ l := by
  induction l with
  | nil => simp [insertFalling]
  | cons y ys ih =>
    unfold insertFalling
    split
    · exact List.mem_cons
    · rw [List.mem_cons, ih, List.mem_cons]
      tauto

/-- A position that a falling list does not hold joins it at its place. -/
theorem pairwise_insertFalling {q : Nat} {l : List Nat} (h : l.Pairwise (· > ·)) (hq : q ∉ l) :
    (insertFalling q l).Pairwise (· > ·) := by
  induction l with
  | nil => simp [insertFalling]
  | cons y ys ih =>
    obtain ⟨hy, hys⟩ := List.pairwise_cons.1 h
    obtain ⟨hne, hnot⟩ := List.ne_and_not_mem_of_not_mem_cons hq
    unfold insertFalling
    split
    · rename_i hlt
      refine List.pairwise_cons.2 ⟨fun z hz => ?_, h⟩
      rcases List.mem_cons.1 hz with rfl | hz
      · exact hlt
      · exact (hy z hz).trans hlt
    · refine List.pairwise_cons.2 ⟨fun z hz => ?_, ih hys hnot⟩
      rcases mem_insertFalling.1 hz with rfl | hz
      · omega
      · exact hy z hz

theorem mem_fullSeen {x h : Nat} : x ∈ fullSeen h ↔ x ≤ h ∧ h - x < 64 := by
  simp only [fullSeen, List.mem_map, List.mem_range]
  constructor
  · rintro ⟨i, hi, rfl⟩
    omega
  · exact fun hx => ⟨h - x, by omega, by omega⟩

theorem pairwise_fullSeen (h : Nat) : (fullSeen h).Pairwise (· > ·) := by
  refine List.pairwise_map.2 (List.Pairwise.imp_of_mem ?_ List.pairwise_lt_range)
  intro i j hi hj hlt
  have := List.mem_range.1 hj
  omega

/-- A sequence is acceptable to a window that holds none; ahead of H within the jump limit; or at most 63 behind H and not
seen (R66). -/
theorem preCheck_acceptable_iff {w : Window} {j q : Nat} :
    w.preCheck j q = .acceptable ↔
      match w.high with
      | none => True
      | some h => (h < q ∧ q - h ≤ j) ∨ (q ≤ h ∧ h - q < 64 ∧ q ∉ w.seen) := by
  unfold Window.preCheck
  cases w.high with
  | none => simp
  | some h => grind

/-- A window that accepts an acceptable sequence still fits (R61, R68). -/
theorem Window.Fits.accept {w : Window} (hw : w.Fits) {j q : Nat} (hq : w.preCheck j q = .acceptable) :
    (w.accept q).Fits := by
  rw [preCheck_acceptable_iff] at hq
  unfold Window.Fits at hw
  unfold Window.accept
  cases hh : w.high with
  | none => simp [Window.Fits]
  | some h =>
    simp only [hh] at hw hq ⊢
    obtain ⟨hmem, hrange, hsorted⟩ := hw
    split
    · refine ⟨List.mem_cons_self, fun x hx => ?_, List.pairwise_cons.2 ⟨fun x hx => ?_, hsorted.filter _⟩⟩
      · rcases List.mem_cons.1 hx with rfl | hx
        · omega
        · obtain ⟨hx, hd⟩ := List.mem_filter.1 hx
          have := hrange x hx
          have := of_decide_eq_true hd
          omega
      · have := hrange x (List.mem_filter.1 hx).1
        omega
    · rename_i hle
      obtain ⟨-, hbehind, hnew⟩ := hq.resolve_left fun hahead => hle hahead.1
      refine ⟨mem_insertFalling.2 (.inr hmem), fun x hx => ?_, pairwise_insertFalling hsorted hnew⟩
      rcases mem_insertFalling.1 hx with rfl | hx
      · omega
      · exact hrange x hx

/-- A window that a MARK re-anchors still fits (R61, R77). -/
theorem Window.Fits.anchor {w : Window} (hw : w.Fits) (m : Nat) : (w.anchor m).Fits := by
  have hfull (h : Nat) : Window.Fits { high := some h, seen := fullSeen h } :=
    ⟨mem_fullSeen.2 (by omega), fun x hx => mem_fullSeen.1 hx, pairwise_fullSeen h⟩
  unfold Window.anchor
  split
  · exact hw
  · split
    · exact hfull _
    · split
      · exact hfull _
      · exact hw

/-- A selected entry is the current or the previous one, and so are its epoch and its window (R65, R133). -/
theorem selected_cases {r : Channel} {tag : BitVec 2} {sel : Selection} (h : r.select tag = some sel) :
    (sel.isCurrent = true ∧ ∃ e, r.current = some e ∧ sel.key = e.key ∧ sel.window = e.window) ∨
      (sel.isCurrent = false ∧ ∃ p, r.previous = some p ∧ sel.key = p.key ∧ sel.window = p.window) := by
  unfold Channel.select at h
  split at h
  · rename_i e he
    obtain rfl := Option.some.inj h
    exact .inl ⟨rfl, e, (Option.filter_eq_some_iff.1 he).1, rfl, rfl⟩
  · obtain ⟨p, hp, rfl⟩ := Option.map_eq_some_iff.1 h
    exact .inr ⟨rfl, p, (Option.filter_eq_some_iff.1 hp).1, rfl, rfl⟩

theorem Channel.WindowsFit.selected {r : Channel} (h : r.WindowsFit) {tag : BitVec 2} {sel : Selection}
    (hsel : r.select tag = some sel) : sel.window.Fits := by
  rcases selected_cases hsel with ⟨-, e, he, -, hw⟩ | ⟨-, p, hp, -, hw⟩ <;> rw [hw]
  · exact h.current e he
  · exact h.previous p hp

/-! ## The fault log -/

/-- The numbers of n records that end just below the next record number (R154). -/
def numbersBelow (next : BitVec 32) (n : Nat) : List (BitVec 32) :=
  (List.range n).map fun i => next - BitVec.ofNat 32 (n - i)

theorem numbersBelow_succ (next : BitVec 32) (n : Nat) : numbersBelow (next + 1) (n + 1) = numbersBelow next n ++ [next] := by
  have hsub (i : Nat) (hi : i < n) :
      next + 1 - BitVec.ofNat 32 (n + 1 - i) = next - BitVec.ofNat 32 (n - i) := by
    rw [show n + 1 - i = (n - i) + 1 by omega, BitVec.ofNat_add]
    exact add_sub_add_right_eq_sub next (BitVec.ofNat 32 (n - i)) 1
  unfold numbersBelow
  rw [List.range_succ, List.map_append, List.map_singleton]
  congr 1
  · exact List.map_congr_left fun i hi => hsub i (List.mem_range.1 hi)
  · simp

theorem numbersBelow_tail (next : BitVec 32) (n : Nat) : (numbersBelow next (n + 1)).tail = numbersBelow next n := by
  unfold numbersBelow
  rw [List.range_succ_eq_map, List.map_cons, List.tail_cons, List.map_map]
  exact List.map_congr_left fun i _ => by simp

/-- The law of the fault log, with the waiting faults of events before the n-th. -/
structure FaultLog.SoundBelow (n : Nat) (log : FaultLog) : Prop where
  length : log.records.length ≤ 64
  numbers : log.records.map (·.number) = numbersBelow log.next log.records.length
  repeats : ∀ r ∈ log.records, 1 ≤ r.repeats ∧ r.repeats ≤ 65535
  lost : log.lost ≤ 65535
  events : ∀ f ∈ log.waiting, f.event < n

theorem faultLog_sound_iff (log : FaultLog) : log.Sound ↔ log.SoundBelow log.event :=
  ⟨fun h => ⟨h.length, h.numbers, h.repeats, h.lost, h.events⟩,
    fun h => ⟨h.length, h.numbers, h.repeats, h.lost, h.events⟩⟩

namespace FaultLog.SoundBelow

theorem mono {n m : Nat} {log : FaultLog} (h : log.SoundBelow n) (hle : n ≤ m) : log.SoundBelow m :=
  { h with events := fun f hf => (h.events f hf).trans_le hle }

theorem inEvent {n : Nat} {log : FaultLog} (h : log.SoundBelow n) (e : Nat) : SoundBelow n { log with event := e } :=
  { h with }

theorem makeRoom {n : Nat} {log l : FaultLog} {cursors : List (BitVec 32)} (h : log.SoundBelow n)
    (hl : log.makeRoom cursors = some l) : l.SoundBelow n := by
  rcases makeRoom_cases hl with ⟨-, rfl⟩ | ⟨oldest, rest, hr, -, rfl⟩ | ⟨-, rfl⟩
  · exact h
  · have hnum := h.numbers
    have hlen := h.length
    rw [hr, List.length_cons] at hnum hlen
    refine { h with length := by show rest.length ≤ 64; omega, numbers := ?_, repeats := fun r hm => h.repeats r ?_ }
    · rw [← numbersBelow_tail, ← hnum, List.map_cons, List.tail_cons]
    · exact hr ▸ List.mem_cons_of_mem _ hm
  · exact h

theorem append {n : Nat} {log : FaultLog} (h : log.SoundBelow n) (hlen : log.records.length ≤ 63) (stamp : BitVec 32)
    (f : FaultReport) : (log.append stamp f).SoundBelow n := by
  refine { h with length := ?_, numbers := ?_, repeats := fun r hr => ?_ }
  · rw [append_length]
    omega
  · rw [append_length, append_next, numbersBelow_succ, ← h.numbers]
    simp [FaultLog.append]
  · rcases List.mem_append.1 hr with hr | hr
    · exact h.repeats r hr
    · obtain rfl := List.mem_singleton.1 hr
      exact ⟨le_rfl, show 1 ≤ 65535 by decide⟩

theorem appendOrLose {n : Nat} {log : FaultLog} (h : log.SoundBelow n) (cursors : List (BitVec 32)) (stamp : BitVec 32)
    (f : FaultReport) : (log.appendOrLose cursors stamp f).SoundBelow n := by
  rcases appendOrLose_cases log cursors stamp f with ⟨l, hl, e⟩ | ⟨-, e⟩ <;> rw [e]
  · exact (h.makeRoom hl).append (makeRoom_spec hl h.length).1 stamp f
  · exact { h with lost := show 1 ≤ 65535 by decide }

theorem accept {n : Nat} {log : FaultLog} (h : log.SoundBelow n) (cursors : List (BitVec 32)) (stamp : BitVec 32)
    (f : FaultReport) : (log.accept cursors stamp f).SoundBelow n := by
  rcases accept_cases log cursors stamp f with ⟨-, r, front, hr, e⟩ | ⟨-, e⟩ | ⟨-, -, e⟩ | ⟨-, l, hl, e⟩ <;> rw [e]
  · have hlen := h.length
    have hnum := h.numbers
    have hrep := h.repeats
    simp only [hr, List.length_append, List.length_singleton, List.map_append, List.map_cons, List.map_nil,
      List.mem_append, List.mem_singleton] at hlen hnum hrep
    refine { h with length := by simpa using hlen, numbers := by simpa [FaultRecord.fold] using hnum,
                    repeats := fun x hx => ?_ }
    rcases List.mem_append.1 hx with hx | hx
    · exact hrep x (.inl hx)
    · obtain rfl := List.mem_singleton.1 hx
      have := hrep r (.inr rfl)
      simp only [FaultRecord.fold, bump]
      omega
  · exact h.appendOrLose cursors stamp f
  · exact { h with lost := bump_le _ }
  · have hroom := (h.makeRoom hl).append (makeRoom_spec hl h.length).1 stamp (lostReport log.lost)
    exact SoundBelow.appendOrLose (log := { l.append stamp (lostReport log.lost) with lost := 0 })
      { hroom with lost := Nat.zero_le _ } cursors stamp f

theorem turn {n : Nat} {log : FaultLog} (h : log.SoundBelow n) (link : Port → PortLink) : (log.turn link).SoundBelow n :=
  turn_keeps (P := FaultLog.SoundBelow n) (fun _ cursors stamp f h => h.accept cursors stamp f)
    (fun _ _ h => { h with events := fun f hf => h.events f (List.mem_of_mem_eraseIdx hf) }) (fun _ _ h => { h with })
    log link h

theorem wait {n : Nat} {log : FaultLog} (h : log.SoundBelow n) (stamp : BitVec 32) (f : FaultReport) :
    (log.wait stamp f).SoundBelow (max n (log.event + 1)) := by
  refine { h with events := fun g hg => ?_ }
  rcases List.mem_append.1 hg with hg | hg
  · exact (h.events g hg).trans_le (le_max_left _ _)
  · obtain rfl := List.mem_singleton.1 hg
    exact (Nat.lt_succ_self _).trans_le (le_max_right _ _)

end FaultLog.SoundBelow

/-- The number of the next event stays through a turn. -/
theorem turn_event (log : FaultLog) (link : Port → PortLink) : (log.turn link).event = log.event :=
  turn_keeps (P := fun l => l.event = log.event)
    (fun l cursors stamp f h => (accept_rest l cursors stamp f).2.2.trans h) (fun _ _ h => h) (fun _ _ h => h) log link rfl

theorem raise_event (s : State) (k : FaultKind) (c : Option (Fin 48)) (p : Option Port) (n : Nat) :
    (s.raise k c p n).log.event = s.log.event + 1 := turn_event _ _

/-- From the one log the other comes: no event number falls, and a log that is sound below an event stays so below the
events after it. -/
structure FaultLog.Grows (log l : FaultLog) : Prop where
  event : log.event ≤ l.event
  sound : ∀ n, log.SoundBelow n → l.SoundBelow (max n l.event)

namespace FaultLog.Grows

theorem refl (log : FaultLog) : log.Grows log := ⟨le_rfl, fun _ h => h.mono (le_max_left _ _)⟩

theorem trans {log l m : FaultLog} (h : log.Grows l) (k : l.Grows m) : log.Grows m :=
  ⟨h.event.trans k.event, fun n hn => (k.sound _ (h.sound n hn)).mono (by have := k.event; omega)⟩

/-- Growth to the logs of events up to the next one: a further fault of the first log's event joins. -/
theorem raise {log : FaultLog} {t : State} (h : log.Grows t.log) (ht : t.log.event ≤ log.event + 1) (k : FaultKind)
    (c : Option (Fin 48)) (p : Option Port) (n : Nat) : log.Grows ((t.inEvent log.event).raise k c p n).log := by
  have he : ((t.inEvent log.event).raise k c p n).log.event = log.event + 1 := raise_event _ k c p n
  refine ⟨by omega, fun m hm => ?_⟩
  have hwait := ((h.sound m hm).inEvent log.event).wait t.timebase.tick
    { kind := k, channel := c, port := p, detail := BitVec.ofNat 16 n }
  exact (hwait.mono (m := max m ((t.inEvent log.event).raise k c p n).log.event)
    (by simp only [he]; omega)).turn (t.inEvent log.event).link

theorem sound_of_sound {log l : FaultLog} (h : log.Grows l) (hs : log.Sound) : l.Sound := by
  rw [faultLog_sound_iff] at hs ⊢
  simpa [max_eq_right h.event] using h.sound _ hs

end FaultLog.Grows

theorem raise_grows (s : State) (k : FaultKind) (c : Option (Fin 48)) (p : Option Port) (n : Nat) :
    s.log.Grows (s.raise k c p n).log := (FaultLog.Grows.refl s.log).raise (t := s) (Nat.le_succ _) k c p n

theorem turn_grows (log : FaultLog) (link : Port → PortLink) : log.Grows (log.turn link) :=
  ⟨(turn_event log link).ge, fun _ h => (h.turn link).mono (le_max_left _ _)⟩

/-- The faults of an adoption's lost cells are of one event (R156, R176). -/
theorem raiseOverruns_grows (s : State) (chosen : List (Fin 48)) (p : Service) (dropped : List Delivered) :
    s.log.Grows (s.raiseOverruns chosen p dropped).log := by
  suffices h : ∀ t : State, s.log.Grows t.log → t.log.event ≤ s.log.event + 1 →
      s.log.Grows (chosen.foldl (fun t c =>
        if cellsOf c dropped = 0 then t
        else (t.inEvent s.log.event).raise .inboundOverrun (some c) (some p.port) (cellsOf c dropped)) t).log from
    h s (.refl _) (Nat.le_succ _)
  induction chosen with
  | nil => exact fun t h _ => h
  | cons c cs ih =>
    intro t h ht
    rw [List.foldl_cons]
    split
    · exact ih t h ht
    · exact ih _ (h.raise ht _ _ _ _) (raise_event _ _ _ _ _).le

/-- TRUNK_FRAMING and TRUNK_SLIP of one marker are of one event (R33, R156). -/
theorem judgeLockedMarker_grows (s : State) (deviation : Nat) :
    s.log.Grows (s.judgeLockedMarker deviation).log := by
  unfold State.judgeLockedMarker
  dsimp only
  by_cases hf : s.frameLength = s.sequencer.frame.slots
  · rw [if_pos hf]
    split
    · exact (FaultLog.Grows.refl s.log).raise (Nat.le_succ _) _ _ _ _
    · exact .refl _
  · rw [if_neg hf]
    split
    · exact (raise_grows s _ _ _ _).raise (raise_event _ _ _ _ _).le _ _ _ _
    · exact raise_grows s _ _ _ _

end Sys2Proof.Machine
end

section
/-! PROOFS. What the operations inside an event may do. `State.Acts s t` says once that t comes from s by changes of
records, queues, port links, the stray count and the log, each one of those that the part makes; what each change keeps,
every operation on records keeps. -/

namespace Sys2Proof.Machine

/-- Two states agree in everything that a law of the part speaks of: the line, the last channel served, the nonce place,
the responses and the command unit's own fields apart. -/
structure State.SameData (s t : State) : Prop where
  channels : t.channels = s.channels
  masters : t.masters = s.masters
  timebase : t.timebase = s.timebase
  sequencer : t.sequencer = s.sequencer
  receive : t.receive = s.receive
  renewalParams : t.renewalParams = s.renewalParams
  qualityParams : t.qualityParams = s.qualityParams
  presencePeriod : t.presencePeriod = s.presencePeriod
  periodTimer : t.periodTimer = s.periodTimer
  inboundA : t.inboundA = s.inboundA
  inboundB : t.inboundB = s.inboundB
  stray : t.stray = s.stray
  portA : t.portA = s.portA
  portB : t.portB = s.portB
  portK : t.portK = s.portK
  log : t.log = s.log

namespace State.SameData

variable {s t : State}

theorem chan (h : s.SameData t) (c : Fin 48) : t.chan c = s.chan c := by rw [State.chan, h.channels, ← State.chan]

theorem inbound (h : s.SameData t) (q : Service) : t.inbound q = s.inbound q := by
  cases q
  · exact h.inboundA
  · exact h.inboundB

theorem link (h : s.SameData t) (p : Port) : t.link p = s.link p := by
  cases p
  · exact h.portA
  · exact h.portB
  · exact h.portK

end State.SameData

/-- The changes that the operations inside an event are made of. -/
inductive State.Acts : State → State → Prop
  | same {s t : State} (h : s.SameData t) : Acts s t
  | trans {s t u : State} (h : Acts s t) (k : Acts t u) : Acts s u
  /-- a port link changes, and stays in its ranges (R167, R168, R173, R178) -/
  | link (s : State) (p : Port) (l : PortLink) (h : (s.link p).Sound → l.Sound) : Acts s (s.setLink p l)
  /-- the stray count rises (R136) -/
  | stray (s : State) : Acts s s.countStray
  /-- a fault is raised, or the log takes faults (R156) -/
  | log (s : State) (l : FaultLog) (h : s.log.Grows l) : Acts s { s with log := l }
  /-- two parts of one event (R156) -/
  | oneEvent {s t u : State} (h : Acts s t) (k : Acts (t.inEvent s.log.event) u) :
      Acts s (u.inEvent (max t.log.event u.log.event))
  /-- a record changes -/
  | record {s : State} {c : Fin 48} {x : Channel} (m : s.RecordMove c x) : Acts s (s.setChan c x)
  /-- a cell is delivered (R83) -/
  | deliver {s : State} {q : Service} (x : Delivered) (ha : (s.chan x.channel).state = .active)
      (hq : (s.chan x.channel).serving = some q) (hroom : (s.inbound q).length < 32)
      (hepoch : (∃ e, (s.chan x.channel).current = some e ∧ x.epoch = e.key.epoch) ∨
        ∃ p, (s.chan x.channel).previous = some p ∧ x.epoch = p.key.epoch)
      (hx : x.sequence ≤ 16776959 ∧ 1 ≤ x.data.length ∧ x.data.length ≤ 48) :
      Acts s (s.setInbound q (s.inbound q ++ [x]))
  /-- TAKE removes the oldest cell (R84) -/
  | take (s : State) (q : Service) : Acts s (s.setInbound q (s.inbound q).tail)
  /-- a channel is torn down, and is CLOSING or CLOSED (R12 to R15) -/
  | close (s : State) (c : Fin 48) (x : Channel)
      (hx : x = Channel.closedValues ∨ ((s.chan c).state ≠ .closed ∧ x = (s.chan c).closing)) :
      Acts s ((s.removeInbound c).setChan c x)
  /-- channels are adopted (R176) -/
  | adopt (s : State) (chosen : List (Fin 48)) (p : Service) (hn : chosen.Nodup)
      (hopen : ∀ c ∈ chosen, (s.chan c).state ≠ .closed) : Acts s (s.adoptAll chosen p).state

/-! ## What every such change keeps -/

/-- The parts of the state that no operation on records touches. -/
structure State.SameBlocks (s t : State) : Prop where
  masters : t.masters = s.masters
  timebase : t.timebase = s.timebase
  sequencer : t.sequencer = s.sequencer
  receive : t.receive = s.receive
  renewalParams : t.renewalParams = s.renewalParams
  qualityParams : t.qualityParams = s.qualityParams
  presencePeriod : t.presencePeriod = s.presencePeriod
  periodTimer : t.periodTimer = s.periodTimer

namespace State.SameBlocks

variable {s t u : State}

theorem refl (s : State) : s.SameBlocks s := ⟨rfl, rfl, rfl, rfl, rfl, rfl, rfl, rfl⟩

theorem trans (h : s.SameBlocks t) (k : t.SameBlocks u) : s.SameBlocks u :=
  ⟨k.masters.trans h.masters, k.timebase.trans h.timebase, k.sequencer.trans h.sequencer, k.receive.trans h.receive,
    k.renewalParams.trans h.renewalParams, k.qualityParams.trans h.qualityParams,
    k.presencePeriod.trans h.presencePeriod, k.periodTimer.trans h.periodTimer⟩

theorem of_onlyChannel {c : Fin 48} (h : OnlyChannel c s t) : s.SameBlocks t :=
  ⟨h.masters, h.timebase, h.sequencer, h.receive, h.renewalParams, h.qualityParams, h.presencePeriod, h.periodTimer⟩

theorem inEvent (s : State) (n : Nat) : s.SameBlocks (s.inEvent n) := ⟨rfl, rfl, rfl, rfl, rfl, rfl, rfl, rfl⟩

theorem params (h : s.SameBlocks t) (hs : s.ParamsSound) (hstray : t.stray ≤ 65535) : t.ParamsSound := by
  obtain ⟨h1, h2, h3, h4, h5, h6, h7, h8, h9, h10, -, h12⟩ := hs
  constructor
  · rwa [h.receive]
  · rwa [h.receive]
  · rwa [h.renewalParams]
  · rwa [h.renewalParams]
  · rwa [h.renewalParams]
  · rwa [h.qualityParams]
  · rwa [h.qualityParams]
  · rwa [h.qualityParams]
  · rwa [h.qualityParams]
  · rwa [h.presencePeriod]
  · exact hstray
  · rwa [h.periodTimer]

theorem trunk (h : s.SameBlocks t) (hs : s.TrunkSound) : t.TrunkSound := by
  obtain ⟨h1, h2, h3, h4, h5, h6, h7, h8⟩ := hs
  constructor <;> first | rwa [h.timebase, h.sequencer] | rwa [h.timebase] | rwa [h.sequencer]

end State.SameBlocks

/-- The records of an adoption are a part of the state on their own. -/
theorem adoptRecords_eq (chosen : List (Fin 48)) (p : Service) (dropped : List Delivered) (s : State) :
    s.adoptRecords chosen p dropped = { s with channels := (s.adoptRecords chosen p dropped).channels } := by
  unfold State.adoptRecords
  induction chosen generalizing s with
  | nil => rfl
  | cons c cs ih =>
    rw [List.foldl_cons, ih]
    rfl

/-- The overrun faults of an adoption change the log only. -/
theorem raiseOverruns_eq (chosen : List (Fin 48)) (p : Service) (dropped : List Delivered) (s : State) :
    s.raiseOverruns chosen p dropped = { s with log := (s.raiseOverruns chosen p dropped).log } := by
  unfold State.raiseOverruns
  generalize s.log.event = n
  induction chosen generalizing s with
  | nil => rfl
  | cons c cs ih =>
    rw [List.foldl_cons, ih]
    split <;> rfl

/-- What an adoption leaves: the queues, the records and the log change only. -/
theorem adoptAll_eq (s : State) (chosen : List (Fin 48)) (p : Service) :
    ∃ channels log, (s.adoptAll chosen p).state =
      { (s.setInbound p.other ((s.inbound p.other).filter fun x => !chosen.contains x.channel)).setInbound p
          (s.inbound p ++ ((s.inbound p.other).filter fun x => chosen.contains x.channel).take
            (32 - (s.inbound p).length)) with channels := channels, log := log } ∧ s.log.Grows log := by
  unfold State.adoptAll
  dsimp only
  rw [raiseOverruns_eq, adoptRecords_eq]
  refine ⟨_, _, rfl, ?_⟩
  have h := raiseOverruns_grows
    (((s.setInbound p.other ((s.inbound p.other).filter fun x => !chosen.contains x.channel)).setInbound p
      (s.inbound p ++ ((s.inbound p.other).filter fun x => chosen.contains x.channel).take
        (Config.inboundDepth - (s.inbound p).length))).adoptRecords chosen p
      (((s.inbound p.other).filter fun x => chosen.contains x.channel).drop
        (Config.inboundDepth - (s.inbound p).length))) chosen p
      (((s.inbound p.other).filter fun x => chosen.contains x.channel).drop
        (Config.inboundDepth - (s.inbound p).length))
  rw [adoptRecords_eq] at h
  simpa using h

theorem adoptAll_inbound (s : State) (chosen : List (Fin 48)) (p : Service) :
    (s.adoptAll chosen p).state.inbound p =
        s.inbound p ++ ((s.inbound p.other).filter fun x => chosen.contains x.channel).take (32 - (s.inbound p).length) ∧
      (s.adoptAll chosen p).state.inbound p.other =
        (s.inbound p.other).filter fun x => !chosen.contains x.channel := by
  obtain ⟨channels, log, h, -⟩ := adoptAll_eq s chosen p
  rw [h]
  cases p <;> exact ⟨rfl, rfl⟩

theorem removeInbound_blocks (s : State) (c : Fin 48) : s.SameBlocks (s.removeInbound c) :=
  .of_onlyChannel (removeInbound_only s c)

/-- The cells of channel c leave the queue of its serving port; the other queue keeps all. -/
theorem mem_removeInbound {s : State} {c : Fin 48} {q : Service} {x : Delivered} :
    x ∈ (s.removeInbound c).inbound q ↔ x ∈ s.inbound q ∧ ((s.chan c).serving = some q → x.channel ≠ c) := by
  unfold State.removeInbound
  cases hq : (s.chan c).serving with
  | none => simp
  | some o =>
    rw [inbound_setInbound]
    by_cases ho : o = q
    · subst ho
      simp
    · have : some o ≠ some q := fun h => ho (Option.some.inj h)
      simp [ho, this]

theorem removeInbound_length (s : State) (c : Fin 48) (q : Service) :
    ((s.removeInbound c).inbound q).length ≤ (s.inbound q).length := by
  unfold State.removeInbound
  split
  · rw [inbound_setInbound]
    split
    · rename_i o _ ho
      subst ho
      exact List.length_filter_le _ _
    · exact le_rfl
  · exact le_rfl

@[simp] theorem removeInbound_chan (s : State) (c d : Fin 48) : (s.removeInbound c).chan d = s.chan d := by
  unfold State.removeInbound
  split <;> simp

theorem removeInbound_rest (s : State) (c : Fin 48) :
    (s.removeInbound c).stray = s.stray ∧ (s.removeInbound c).log = s.log ∧
      ∀ p, (s.removeInbound c).link p = s.link p := by
  unfold State.removeInbound
  split <;> simp

/-- A law of one record that holds of closed and closing ones and is kept by each change of a record and by adoption, on a
condition that the state meets. -/
structure RecordLaw (C : State → Prop) (P : Channel → Prop) : Prop where
  move : ∀ (s : State) c x, C s → s.RecordMove c x → P (s.chan c) → P x
  adopted : ∀ r n p, P r → P (Channel.adopted r n p)
  closing : ∀ r, P r → P (Channel.closing r)
  closed : P Channel.closedValues

namespace State.Acts

variable {s t : State}

theorem refl (s : State) : s.Acts s := .same ⟨rfl, rfl, rfl, rfl, rfl, rfl, rfl, rfl, rfl, rfl, rfl, rfl, rfl, rfl, rfl, rfl⟩

theorem blocks (h : s.Acts t) : s.SameBlocks t := by
  induction h with
  | same h =>
    exact ⟨h.masters, h.timebase, h.sequencer, h.receive, h.renewalParams, h.qualityParams, h.presencePeriod,
      h.periodTimer⟩
  | trans _ _ ih ik => exact ih.trans ik
  | link s p l => cases p <;> constructor <;> rfl
  | stray s => constructor <;> rfl
  | log s => constructor <;> rfl
  | oneEvent _ _ ih ik => exact ((ih.trans (.inEvent _ _)).trans ik).trans (.inEvent _ _)
  | record => constructor <;> rfl
  | @deliver s q => cases q <;> constructor <;> rfl
  | take s q => cases q <;> constructor <;> rfl
  | close s c x =>
    have h := removeInbound_blocks s c
    exact ⟨h.1, h.2, h.3, h.4, h.5, h.6, h.7, h.8⟩
  | adopt s chosen p =>
    obtain ⟨channels, log, h, -⟩ := adoptAll_eq s chosen p
    rw [h]
    cases p <;> constructor <;> rfl

theorem stray_le (h : s.Acts t) (hs : s.stray ≤ 65535) : t.stray ≤ 65535 := by
  induction h with
  | same h => rwa [h.stray]
  | trans _ _ ih ik => exact ik (ih hs)
  | link s p l => cases p <;> exact hs
  | stray s => exact bump_le _
  | log => exact hs
  | oneEvent _ _ ih ik => exact ik (ih hs)
  | record => exact hs
  | @deliver s q => cases q <;> exact hs
  | take s q => cases q <;> exact hs
  | close s c => exact (removeInbound_rest s c).1 ▸ hs
  | adopt s chosen p =>
    obtain ⟨channels, log, h, -⟩ := adoptAll_eq s chosen p
    rw [h]
    cases p <;> exact hs

theorem params (h : s.Acts t) (hs : s.ParamsSound) : t.ParamsSound := h.blocks.params hs (h.stray_le hs.stray)

theorem links (h : s.Acts t) (hs : ∀ p, (s.link p).Sound) : ∀ p, (t.link p).Sound := by
  induction h with
  | same h => exact fun p => h.link p ▸ hs p
  | trans _ _ ih ik => exact ik (ih hs)
  | link s p l h =>
    intro o
    rw [link_setLink]
    split
    · exact h (hs p)
    · exact hs o
  | stray => exact hs
  | log => exact hs
  | oneEvent _ _ ih ik => exact ik (ih hs)
  | record => exact hs
  | @deliver s q => cases q <;> exact hs
  | take s q => cases q <;> exact hs
  | close s c => exact fun p => (removeInbound_rest s c).2.2 p ▸ hs p
  | adopt s chosen p =>
    obtain ⟨channels, log, h, -⟩ := adoptAll_eq s chosen p
    rw [h]
    cases p <;> exact hs

theorem grows (h : s.Acts t) : s.log.Grows t.log := by
  induction h with
  | same h => exact h.log ▸ .refl _
  | trans _ _ ih ik => exact ih.trans ik
  | link s p l => cases p <;> exact .refl _
  | stray => exact .refl _
  | log s l h => exact h
  | @oneEvent s t u _ _ ih ik =>
    refine ⟨ih.event.trans (le_max_left _ _), fun n hn => ?_⟩
    have hu := ik.sound _ ((ih.sound n hn).inEvent s.log.event)
    exact (hu.mono (m := max n (max t.log.event u.log.event)) (by omega)).inEvent _
  | record => exact .refl _
  | @deliver s q => cases q <;> exact .refl _
  | take s q => cases q <;> exact .refl _
  | close s c => exact (removeInbound_rest s c).2.1 ▸ .refl _
  | adopt s chosen p =>
    obtain ⟨channels, log, h, hl⟩ := adoptAll_eq s chosen p
    rw [h]
    exact hl

/-- A law of a record is kept by every operation on records, on a condition that every operation keeps. -/
theorem record_keep {C : State → Prop} {P : Channel → Prop} (law : RecordLaw C P)
    (hacts : ∀ s t : State, s.Acts t → C s → C t) (hevent : ∀ (s : State) n, C s → C (s.inEvent n)) (h : s.Acts t)
    (hs : C s) (c : Fin 48) (hP : P (s.chan c)) : P (t.chan c) := by
  induction h with
  | same h => exact h.chan c ▸ hP
  | trans h _ ih ik => exact ik (hacts _ _ h hs) (ih hs hP)
  | link s p l => cases p <;> exact hP
  | stray => exact hP
  | log => exact hP
  | oneEvent h _ ih ik => exact ik (hevent _ _ (hacts _ _ h hs)) (ih hs hP)
  | @record s d x m =>
    rw [chan_setChan]
    split
    · rename_i hd
      subst hd
      exact law.move s d x hs m hP
    · exact hP
  | @deliver s q => cases q <;> exact hP
  | take s q => cases q <;> exact hP
  | close s d x hx =>
    rw [chan_setChan, removeInbound_chan]
    split
    · rename_i hd
      subst hd
      rcases hx with rfl | ⟨-, rfl⟩
      · exact law.closed
      · exact law.closing _ hP
    · exact hP
  | adopt s chosen p hn =>
    rw [adoptAll_chan s chosen hn]
    split
    · exact law.adopted _ _ _ hP
    · exact hP

end State.Acts

end Sys2Proof.Machine
end

section
/-! PROOFS. Every operation on records is made of the changes of `State.Acts`: a lemma `<operation>_acts` each, beside the
frames `<operation>_only`. -/

namespace Sys2Proof.Machine

variable {s : State} {c : Fin 48}

theorem modChan_acts {f : Channel → Channel} (m : s.RecordMove c (f (s.chan c))) : s.Acts (s.modChan c f) := .record m

theorem raise_acts (s : State) (k : FaultKind) (o : Option (Fin 48)) (p : Option Port) (n : Nat) :
    s.Acts (s.raise k o p n) := .log s _ (raise_grows s k o p n)

theorem raiseFor_acts (s : State) (c : Fin 48) (k : FaultKind) (n : Nat) : s.Acts (s.raiseFor k c n) :=
  raise_acts s k _ _ n

theorem afterDraw_acts (s : State) : s.Acts s.afterDraw :=
  .same ⟨rfl, rfl, rfl, rfl, rfl, rfl, rfl, rfl, rfl, rfl, rfl, rfl, rfl, rfl, rfl, rfl⟩

theorem lineOut_acts (s : State) (x : Option Cell) : s.Acts { s with lineOut := x } :=
  .same ⟨rfl, rfl, rfl, rfl, rfl, rfl, rfl, rfl, rfl, rfl, rfl, rfl, rfl, rfl, rfl, rfl⟩

theorem asOneEvent_acts {first second : State → State} (h : s.Acts (first s))
    (k : ((first s).inEvent s.log.event).Acts (second ((first s).inEvent s.log.event))) :
    s.Acts (s.asOneEvent first second) := .oneEvent h k

/-- A change of the quality state of an open record is a change of the part's. -/
theorem quality_acts {f : Channel → Channel} (hf : ∀ r, f r = { r with quality := (f r).quality })
    (hopen : s.RecordsSound → s.ParamsSound → (s.chan c).state ≠ .closed)
    (hfit : ∀ r, r.quality.Fits → (f r).quality.Fits) : s.Acts (s.modChan c f) :=
  modChan_acts (hf (s.chan c) ▸ .quality _ hopen (hfit _))

/-! ## The counts and scores of the quality state -/

theorem Quality.Fits.with_counts {q : Quality} (h : q.Fits) {n : Counts} (hn : n.Fits) : { q with counts := n }.Fits :=
  { h with counts := hn }

theorem zero_fits : Counts.zero.Fits := by decide

theorem countG_fits (r : Channel) (h : r.quality.Fits) : r.countG.quality.Fits := by
  obtain ⟨-, ht, hj, he, hx, hr, hd, hw, hi⟩ := h.counts
  refine { h with counts := ⟨bump_le _, ht, hj, he, hx, hr, hd, hw, hi⟩, silence := ?_ }
  show (if r.quality.silenceRunning then 0 else r.quality.silence) ≤ 65535
  split
  · exact Nat.zero_le _
  · exact h.silence

theorem countJ_fits (r : Channel) (h : r.quality.Fits) : r.countJ.quality.Fits := by
  obtain ⟨hg, ht, -, he, hx, hr, hd, hw, hi⟩ := h.counts
  exact h.with_counts ⟨hg, ht, bump_le _, he, hx, hr, hd, hw, hi⟩

theorem countE_fits (r : Channel) (h : r.quality.Fits) : r.countE.quality.Fits := by
  obtain ⟨hg, ht, hj, -, hx, hr, hd, hw, hi⟩ := h.counts
  exact h.with_counts ⟨hg, ht, hj, bump_le _, hx, hr, hd, hw, hi⟩

theorem countX_fits (r : Channel) (h : r.quality.Fits) : r.countX.quality.Fits := by
  obtain ⟨hg, ht, hj, he, -, hr, hd, hw, hi⟩ := h.counts
  exact h.with_counts ⟨hg, ht, hj, he, bump_le _, hr, hd, hw, hi⟩

theorem countR_fits (r : Channel) (h : r.quality.Fits) : r.countR.quality.Fits := by
  obtain ⟨hg, ht, hj, he, hx, -, hd, hw, hi⟩ := h.counts
  exact h.with_counts ⟨hg, ht, hj, he, hx, bump_le _, hd, hw, hi⟩

theorem countD_fits (r : Channel) (h : r.quality.Fits) : r.countD.quality.Fits := by
  obtain ⟨hg, ht, hj, he, hx, hr, -, hw, hi⟩ := h.counts
  exact h.with_counts ⟨hg, ht, hj, he, hx, hr, bump_le _, hw, hi⟩

theorem countWithheld_fits (r : Channel) (h : r.quality.Fits) : r.countWithheld.quality.Fits := by
  obtain ⟨hg, ht, hj, he, hx, hr, hd, -, hi⟩ := h.counts
  exact h.with_counts ⟨hg, ht, hj, he, hx, hr, hd, bump_le _, hi⟩

theorem countIdle_fits (r : Channel) (h : r.quality.Fits) : r.countIdle.quality.Fits := by
  obtain ⟨hg, ht, hj, he, hx, hr, hd, hw, -⟩ := h.counts
  exact h.with_counts ⟨hg, ht, hj, he, hx, hr, hd, hw, bump_le _⟩

/-- A score is at most 1,000, and so is a smoothed one (R142). -/
theorem closePeriod_fits {q : Quality} (h : q.Fits) : q.closePeriod.Fits := by
  have hscore : q.counts.score ≤ 1000 := by
    refine Nat.div_le_of_le_mul ?_
    simp only [Counts.scored]
    omega
  have hsmoothed := h.smoothed
  refine { counts := zero_fits, last := h.counts, lastScore := fun n hn => ?_, smoothed := ?_, silence := h.silence }
  · simp only [Quality.closePeriod] at hn
    split at hn
    · exact h.lastScore n hn
    · exact Option.some.inj hn ▸ hscore
  · simp only [Quality.closePeriod, smooth]
    split
    · exact hsmoothed
    · omega

/-- The counting of one outcome, on an open channel. -/
theorem countG_acts (h : (s.chan c).state ≠ .closed) : s.Acts (s.modChan c Channel.countG) :=
  quality_acts (fun _ => rfl) (fun _ _ => h) countG_fits

theorem countJ_acts (h : (s.chan c).state ≠ .closed) : s.Acts (s.modChan c Channel.countJ) :=
  quality_acts (fun _ => rfl) (fun _ _ => h) countJ_fits

theorem countE_acts (h : (s.chan c).state ≠ .closed) : s.Acts (s.modChan c Channel.countE) :=
  quality_acts (fun _ => rfl) (fun _ _ => h) countE_fits

theorem countX_acts (h : (s.chan c).state ≠ .closed) : s.Acts (s.modChan c Channel.countX) :=
  quality_acts (fun _ => rfl) (fun _ _ => h) countX_fits

theorem countR_acts (h : (s.chan c).state ≠ .closed) : s.Acts (s.modChan c Channel.countR) :=
  quality_acts (fun _ => rfl) (fun _ _ => h) countR_fits

theorem countD_acts (h : (s.chan c).state ≠ .closed) : s.Acts (s.modChan c Channel.countD) :=
  quality_acts (fun _ => rfl) (fun _ _ => h) countD_fits

theorem countWithheld_acts (h : (s.chan c).state ≠ .closed) : s.Acts (s.modChan c Channel.countWithheld) :=
  quality_acts (fun _ => rfl) (fun _ _ => h) countWithheld_fits

theorem countIdle_acts (h : (s.chan c).state ≠ .closed) : s.Acts (s.modChan c Channel.countIdle) :=
  quality_acts (fun _ => rfl) (fun _ _ => h) countIdle_fits

/-! ## Renewal -/

theorem startIfDue_acts (s : State) (c : Fin 48) : s.Acts (s.startIfDue c) := by
  unfold State.startIfDue
  split
  · exact (modChan_acts (.started s.nextNonce ‹_›)).trans (afterDraw_acts _)
  · exact .refl s

theorem trigger_acts (s : State) (c : Fin 48) (k : Cause) : s.Acts (s.trigger c k) := by
  unfold State.trigger
  split
  · exact (modChan_acts (.noted k ‹_›)).trans (startIfDue_acts _ c)
  · exact .refl s

theorem judgeAge_acts (s : State) (c : Fin 48) : s.Acts (s.judgeAge c) := by
  unfold State.judgeAge
  split
  · exact trigger_acts s c _
  · exact .refl s

theorem failRenewal_acts (h : (s.chan c).offerTimer.isSome) : s.Acts (s.failRenewal c) :=
  (raiseFor_acts s c _ _).trans (.record (State.RecordMove.failed (s := s.raiseFor .renewFail c _) h))

theorem offerExpired_acts (s : State) (c : Fin 48) : s.Acts (s.offerExpired c) := by
  unfold State.offerExpired
  split
  · rename_i h
    split
    · exact modChan_acts (.offeredAgain (by simp [h]))
    · exact failRenewal_acts (by simp [h])
  · exact .refl s

theorem cutoverExpired_acts (s : State) (c : Fin 48) : s.Acts (s.cutoverExpired c) := by
  unfold State.cutoverExpired
  split
  · rename_i h
    split
    · exact (modChan_acts (.cutOver (by simp [h]))).trans (startIfDue_acts _ c)
    · exact .refl s
  · exact .refl s

theorem keyingEntry_acts (s : State) (c : Fin 48) : s.Acts (s.keyingEntry c) := by
  unfold State.keyingEntry
  split
  · exact (modChan_acts (.enteredKeying ‹_›)).trans (trigger_acts _ c _)
  · exact .refl s

theorem judgeRequest_acts (s : State) (c : Fin 48) : s.Acts (s.judgeRequest c) := by
  unfold State.judgeRequest
  split
  · exact trigger_acts s c _
  · exact .stray s

theorem holdOffEnd_acts (s : State) (c : Fin 48) : s.Acts (s.holdOffEnd c) := by
  unfold State.holdOffEnd
  split
  · exact (modChan_acts .heldOff).trans (startIfDue_acts _ c)
  · exact .refl s

/-- The last count of a timer does not matter to the requeueing that overwrites it. -/
theorem requeueOffer_of_offerTimer (r : Channel) (t : Option Nat) :
    ({ r with offerTimer := t }).requeueOffer = r.requeueOffer := by
  cases h : r.pendingEntry <;> simp [Channel.requeueOffer, h, Channel.queueCell]

theorem requeueResync_of_resyncTimer (r : Channel) (t : Option Nat) :
    ({ r with resyncTimer := t }).requeueResync = r.requeueResync := by
  cases h : r.challenge <;> simp [Channel.requeueResync, h, Channel.queueCell]

/-- Nor does it to a renewal that fails with it. -/
theorem failRenewal_of_offerTimer (s : State) (c : Fin 48) (t : Option Nat) :
    (s.modChan c fun r => { r with offerTimer := t }).failRenewal c = s.failRenewal c := by
  have hepoch : ((s.modChan c fun r => { r with offerTimer := t }).chan c).offeredEpoch = (s.chan c).offeredEpoch := by
    rw [chan_modChan_same]
    rfl
  have hserving : ((s.modChan c fun r => { r with offerTimer := t }).chan c).serving = (s.chan c).serving := by
    rw [chan_modChan_same]
  unfold State.failRenewal State.raiseFor
  rw [hepoch, hserving]
  exact modChan_modChan (s.raise .renewFail (some c) ((s.chan c).serving.map Service.port) (s.chan c).offeredEpoch) c
    (fun r => { r with offerTimer := t }) (·.failRenewal s.renewalParams.tOffer)

theorem isSome_of_lastCount {t : Option Nat} (h : lastCount t = true) : t.isSome := by
  cases t with
  | none => cases h
  | some n => rfl

theorem offerTimerExpiry_acts (s : State) (c : Fin 48) : s.Acts (s.offerTimerExpiry c) := by
  unfold State.offerTimerExpiry
  split
  · rename_i h
    have hsome := isSome_of_lastCount h.2
    unfold State.offerExpired
    rw [if_pos (by simp)]
    split
    · rw [modChan_modChan]
      refine modChan_acts ?_
      rw [requeueOffer_of_offerTimer]
      exact .offeredAgain hsome
    · rw [failRenewal_of_offerTimer]
      exact failRenewal_acts hsome
  · exact .refl s

theorem cutoverTimerExpiry_acts (s : State) (c : Fin 48) : s.Acts (s.cutoverTimerExpiry c) := by
  unfold State.cutoverTimerExpiry
  split
  · rename_i h
    have hsome := isSome_of_lastCount h.2
    exact (modChan_acts (.cutOver (by simpa using hsome))).trans (startIfDue_acts _ c)
  · exact .refl s

/-! ## Closure and sending (R12 to R15, R20 to R22) -/

theorem closeNow_acts (s : State) (c : Fin 48) : s.Acts (s.closeNow c) := by
  have h : s.closeNow c = (s.removeInbound c).setChan c Channel.closedValues := by
    simp [State.closeNow, State.teardown, State.modChan]
  exact h ▸ .close s c _ (.inl rfl)

theorem closingEnd_acts (s : State) (c : Fin 48) : s.Acts (s.closingEnd c) := by
  unfold State.closingEnd
  split
  · exact .record (.closed ‹_›)
  · exact .refl s

theorem judgePreset_acts (s : State) (c : Fin 48) : s.Acts (s.judgePreset c) := by
  unfold State.judgePreset
  split
  · exact trigger_acts s c _
  · exact .refl s

theorem judgeHardLimit_acts (s : State) (c : Fin 48) : s.Acts (s.judgeHardLimit c) := by
  unfold State.judgeHardLimit
  split
  · rename_i h
    exact (modChan_acts (.holds (Bool.and_eq_true _ _ ▸ h).1)).trans (raiseFor_acts _ c _ _)
  · exact .refl s

/-- The sending of a cell and the judgement of the hard limit change the record together (R20, R21). -/
theorem afterSend_judgeHardLimit_acts {e : CurrentEntry} (he : (s.chan c).current = some e)
    (ha : (s.chan c).state = .active) (hh : (s.chan c).held = false) :
    s.Acts ((s.modChan c (·.afterSend e)).judgeHardLimit c) := by
  have m : s.Acts _ := .record (.sentData e ha hh he)
  have hlimit : ((s.chan c).afterSend e).atHardLimit = decide (e.nextTx + 1 = Config.hardLimit) := by
    simp [Channel.atHardLimit, Channel.afterSend, ha]
  have hheld : ((s.chan c).afterSend e).held = false := hh
  unfold State.judgeHardLimit
  rw [chan_modChan_same, hlimit, hheld]
  by_cases hl : e.nextTx + 1 = Config.hardLimit
  · rw [if_pos (by simp [hl])]
    rw [decide_eq_true hl] at m
    rw [modChan_modChan]
    exact m.trans (raiseFor_acts _ c _ _)
  · rw [if_neg (by simp [hl])]
    rw [decide_eq_false hl] at m
    have hsame : { (s.chan c).afterSend e with held := false } = (s.chan c).afterSend e := by rw [← hheld]
    rw [hsame] at m
    exact m

theorem loadData_acts (s : State) (c : Fin 48) : s.Acts (s.loadData c) := by
  unfold State.loadData
  split
  · rename_i e he
    split
    · rename_i h
      exact (lineOut_acts s (some ((s.chan c).nextCell e c))).trans ((afterSend_judgeHardLimit_acts
        (s := { s with lineOut := some ((s.chan c).nextCell e c) }) he h.1 h.2).trans (judgePreset_acts _ c))
    · exact lineOut_acts s _
  · exact lineOut_acts s _

/-! ## Storms, scores and silence (R141 to R148) -/

theorem storm_acts (h : (s.chan c).state = .active) : s.Acts (s.storm c) :=
  ((modChan_acts (.resynced .quarantine h)).trans (raiseFor_acts _ c _ _)).trans (trigger_acts _ c _)

/-- A storm is due on an open channel only: a CLOSED record counts no T. -/
theorem open_of_stormDue (h : (s.chan c).quality.stormDue s.qualityParams.stormLimit = true) (hr : s.RecordsSound)
    (hp : s.ParamsSound) : (s.chan c).state ≠ .closed := by
  intro hc
  have hfits := (hr.records c).entries
  simp only [Channel.EntriesFit, hc] at hfits
  have hlimit := hp.storm.1
  rw [hfits] at h
  have : s.qualityParams.stormLimit ≤ 0 := by
    simpa [Quality.stormDue, Channel.closedValues, Quality.fresh, Counts.zero] using h
  omega

theorem judgeStorm_acts (s : State) (c : Fin 48) : s.Acts (s.judgeStorm c) := by
  unfold State.judgeStorm
  split
  · rename_i hdue
    have hmark : s.Acts (s.modChan c Channel.markStorm) :=
      quality_acts (fun _ => rfl) (open_of_stormDue hdue) fun _ h => { h with }
    split
    · rename_i h
      have ha : ((s.modChan c Channel.markStorm).chan c).state = .active := by
        rw [chan_modChan_same]
        exact of_decide_eq_true (Bool.and_eq_true _ _ ▸ h).1
      exact hmark.trans (storm_acts ha)
    · exact hmark
  · exact .refl s

theorem countT_acts (h : (s.chan c).state ≠ .closed) : s.Acts (s.countT c) := by
  refine (quality_acts (fun _ => rfl) (fun _ _ => h) fun r hq => ?_).trans (judgeStorm_acts _ c)
  obtain ⟨hg, -, hj, he, hx, hr, hd, hw, hi⟩ := hq.counts
  exact hq.with_counts ⟨hg, bump_le _, hj, he, hx, hr, hd, hw, hi⟩

theorem scoreChannel_acts (s : State) (c : Fin 48) : s.Acts (s.scoreChannel c) := by
  unfold State.scoreChannel
  split
  · exact .refl s
  · rename_i h
    have m : s.Acts (s.modChan c fun r => { r with quality :=
        { (s.chan c).quality.closePeriod with
          low := lowFlagAfter s.qualityParams.low s.qualityParams.high (s.chan c).quality.closePeriod.smoothed
            (s.chan c).quality.closePeriod.low } }) :=
      modChan_acts (.quality _ (fun _ _ => h) fun hq => { closePeriod_fits hq with })
    dsimp only
    split
    · exact m
    · split
      · exact m.trans (raiseFor_acts _ c _ _)
      · exact m.trans (raiseFor_acts _ c _ _)

theorem judgeSilence_acts (s : State) (c : Fin 48) : s.Acts (s.judgeSilence c) := by
  unfold State.judgeSilence
  split
  · exact (raiseFor_acts s c _ _).trans (closeNow_acts _ c)
  · exact .refl s

theorem silenceLimit_acts (s : State) (c : Fin 48) : s.Acts (s.silenceLimit c) := by
  unfold State.silenceLimit
  dsimp only
  split
  · rename_i h
    refine (quality_acts (fun _ => rfl) (fun hr _ hc => ?_) fun _ hq => ?_).trans (judgeSilence_acts _ c)
    · have hfits := (hr.records c).entries
      simp only [Channel.EntriesFit, hc] at hfits
      simp [Quality.silent, hfits, Channel.closedValues, Quality.fresh] at h
    · exact { hq with silence := bump_le _ }
  · exact .refl s

/-! ## Acceptance (R62 to R76, R83) -/

theorem judgeSyncLoss_acts (s : State) (c : Fin 48) : s.Acts (s.judgeSyncLoss c) := by
  unfold State.judgeSyncLoss
  split
  · rename_i h
    have ha : (s.chan c).state = .active := by
      simp only [Bool.and_eq_true, decide_eq_true_eq] at h
      exact h.1.1
    exact ((raiseFor_acts s c _ _).trans (.record (State.RecordMove.lostSync (s := s.raiseFor .syncLost c _) s.nextNonce
      ha))).trans (afterDraw_acts _)
  · exact .refl s

theorem raiseSyncLoss_acts (h : (s.chan c).state = .active) : s.Acts (s.raiseSyncLoss c) := by
  unfold State.raiseSyncLoss
  split
  · exact (modChan_acts (.countedSyncLoss _ h (Nat.min_le_left _ _))).trans (judgeSyncLoss_acts _ c)
  · exact .refl s

theorem resyncExpired_acts (s : State) (c : Fin 48) : s.Acts (s.resyncExpired c) := by
  unfold State.resyncExpired
  split
  · rename_i h
    split
    · exact modChan_acts (.resyncedAgain (by simp [h]))
    · exact ((modChan_acts (.exchangeEnded (by simp [h]))).trans (raiseFor_acts _ c _ _)).trans (trigger_acts _ c _)
  · exact .refl s

theorem resyncTimerExpiry_acts (s : State) (c : Fin 48) : s.Acts (s.resyncTimerExpiry c) := by
  unfold State.resyncTimerExpiry
  split
  · rename_i h
    have hsome := isSome_of_lastCount h.2
    unfold State.resyncExpired
    rw [if_pos (by simp)]
    split
    · rw [modChan_modChan]
      refine modChan_acts ?_
      rw [requeueResync_of_resyncTimer]
      exact .resyncedAgain hsome
    · rw [modChan_modChan]
      exact ((modChan_acts (.exchangeEnded hsome)).trans (raiseFor_acts _ c _ _)).trans (trigger_acts _ c _)
  · exact .refl s

theorem rejectE_acts (h : (s.chan c).state = .active) : s.Acts (s.rejectE c) :=
  (countE_acts (by simp [h])).trans (raiseSyncLoss_acts (by rw [chan_modChan_same]; exact h))

theorem headerError_acts (s : State) (c : Fin 48) : s.Acts (s.headerError c) := by
  unfold State.headerError
  split
  · exact .refl s
  · exact rejectE_acts ‹_›
  all_goals exact countE_acts (by simp [*])

end Sys2Proof.Machine
end

section
/-! PROOFS. The operations of acceptance, of the control slots and of the commands are made of the changes of `State.Acts`
too. -/

namespace Sys2Proof.Machine

variable {s : State} {c : Fin 48}

/-! ## Acceptance (R65 to R69, R83) -/

/-- The record after an acceptance, as three changes of a record: window, G, sync-loss count (R68). -/
theorem accepted_acts {sel : Selection} {tag : BitVec 2} {j q : Nat} (ha : (s.chan c).state = .active)
    (hsel : (s.chan c).select tag = some sel) (hq : sel.window.preCheck j q = .acceptable) :
    s.Acts (s.modChan c (·.accepted sel q)) := by
  have hwindow : s.Acts (s.setChan c ((s.chan c).setWindow sel.isCurrent (sel.window.accept q))) :=
    .record (.window sel.isCurrent _ ha fun hw => (hw.selected hsel).accept hq)
  have ha1 : ((s.setChan c ((s.chan c).setWindow sel.isCurrent (sel.window.accept q))).chan c).state = .active := by
    rw [chan_setChan_same, Channel.setWindow]
    split <;> exact ha
  have hg := countG_acts (c := c) (s := s.setChan c ((s.chan c).setWindow sel.isCurrent (sel.window.accept q)))
    (by rw [ha1]; decide)
  have hloss := modChan_acts (s := (s.setChan c ((s.chan c).setWindow sel.isCurrent (sel.window.accept q))).modChan c
    Channel.countG) (c := c) (f := fun r => { r with syncLoss := 0 })
    (.countedSyncLoss 0 (by rw [chan_modChan_same]; exact ha1) (Nat.zero_le _))
  simpa [State.modChan, Channel.accepted] using (hwindow.trans hg).trans hloss

/-- An acceptance leaves the epochs of both entries, the channel state, the serving port and the sync state. -/
theorem accepted_leaves (r : Channel) (sel : Selection) (q : Nat) :
    (r.accepted sel q).state = r.state ∧ (r.accepted sel q).serving = r.serving ∧
      (r.accepted sel q).current.map (·.key) = r.current.map (·.key) ∧
      (r.accepted sel q).previous.map (·.key) = r.previous.map (·.key) := by
  unfold Channel.accepted Channel.setWindow
  cases sel.isCurrent <;> simp [Channel.countG, Function.comp_def]

theorem accepted_epoch {r : Channel} {sel : Selection} {tag : BitVec 2} (hsel : r.select tag = some sel) (q : Nat) :
    (∃ e, (r.accepted sel q).current = some e ∧ sel.key.epoch = e.key.epoch) ∨
      ∃ p, (r.accepted sel q).previous = some p ∧ sel.key.epoch = p.key.epoch := by
  obtain ⟨-, -, hcur, hprev⟩ := accepted_leaves r sel q
  rcases selected_cases hsel with ⟨-, e, he, hk, -⟩ | ⟨-, p, hp, hk, -⟩
  · rw [he, Option.map_some] at hcur
    obtain ⟨e', he', hkey⟩ := Option.map_eq_some_iff.1 hcur
    exact .inl ⟨e', he', by rw [hkey, hk]⟩
  · rw [hp, Option.map_some] at hprev
    obtain ⟨p', hp', hkey⟩ := Option.map_eq_some_iff.1 hprev
    exact .inr ⟨p', hp', by rw [hkey, hk]⟩

/-- A cell that is delivered is of an ACTIVE channel, of one of its entries, and in its ranges (R82, R83). -/
theorem deliver_acts {x : Delivered} (ha : (s.chan x.channel).state = .active)
    (hepoch : (∃ e, (s.chan x.channel).current = some e ∧ x.epoch = e.key.epoch) ∨
      ∃ p, (s.chan x.channel).previous = some p ∧ x.epoch = p.key.epoch)
    (hx : x.sequence ≤ 16776959 ∧ 1 ≤ x.data.length ∧ x.data.length ≤ 48) : s.Acts (s.deliver x.channel x) := by
  unfold State.deliver
  split
  · exact .refl s
  · split
    · exact .deliver x ha ‹_› ‹_› hepoch hx
    · exact (countD_acts (by simp [ha])).trans (raise_acts _ _ _ _ _)

/-- A sound DATA cell is delivered in its ranges (R51, R82). -/
theorem deliveredCell_inRange {cell : Cell} (h : headerSound .data cell.header = true) (c : Fin 48) (sel : Selection) :
    (deliveredCell c sel cell).sequence ≤ 16776959 ∧ 1 ≤ (deliveredCell c sel cell).data.length ∧
      (deliveredCell c sel cell).data.length ≤ 48 := by
  simp only [headerSound, Bool.and_eq_true, sequencePasses, lengthPasses, CellKind.controlLength, decide_eq_true_eq,
    Config.hardLimit] at h
  obtain ⟨⟨-, hseq⟩, hlow, hhigh⟩ := h
  simp only [deliveredCell, dataOf, List.length_take, bigEndian_length]
  have hseq := of_decide_eq_true hseq
  omega

theorem dispose_acts {kind : CellKind} {sel : Selection} {cell : Cell} (ha : (s.chan c).state = .active)
    (hepoch : (∃ e, (s.chan c).current = some e ∧ sel.key.epoch = e.key.epoch) ∨
      ∃ p, (s.chan c).previous = some p ∧ sel.key.epoch = p.key.epoch)
    (hsound : headerSound kind cell.header = true) : s.Acts (s.dispose c kind (deliveredCell c sel cell)) := by
  unfold State.dispose
  split
  · rename_i hkind
    subst hkind
    split
    · exact countWithheld_acts (by simp [ha])
    · exact deliver_acts (x := deliveredCell c sel cell) ha hepoch (deliveredCell_inRange hsound c sel)
  · exact .refl s

/-- A raise of the sync-loss count leaves an ACTIVE channel ACTIVE. -/
theorem judgeSyncLoss_state (s : State) (c : Fin 48) : ((s.judgeSyncLoss c).chan c).state = (s.chan c).state := by
  unfold State.judgeSyncLoss
  split
  · exact (congrArg Channel.state (chan_modChan_same (s.raiseFor .syncLost c (s.chan c).currentEpoch) c
      (fun r => r.loseSync s.nextNonce s.renewalParams.retryLimit))).trans rfl
  · rfl

theorem raiseSyncLoss_state (s : State) (c : Fin 48) : ((s.raiseSyncLoss c).chan c).state = (s.chan c).state := by
  unfold State.raiseSyncLoss
  split
  · rw [judgeSyncLoss_state, chan_modChan_same]
  · rfl

theorem checkTraffic_acts {kind : CellKind} {sel : Selection} {cell : Cell} {tag : BitVec 2} {j : Nat}
    (ha : (s.chan c).state = .active) (hsel : (s.chan c).select tag = some sel)
    (hq : sel.window.preCheck j (headerSequence cell.header).toNat = .acceptable)
    (hsound : headerSound kind cell.header = true) : s.Acts (s.checkTraffic c kind sel cell) := by
  unfold State.checkTraffic
  split
  · refine (accepted_acts ha hsel hq).trans (dispose_acts ?_ ?_ hsound)
    · rw [chan_modChan_same, (accepted_leaves _ _ _).1, ha]
    · rw [chan_modChan_same]
      exact accepted_epoch hsel _
  · refine asOneEvent_acts (raiseSyncLoss_acts ha) (countT_acts ?_)
    rw [inEvent_chan, raiseSyncLoss_state, ha]
    decide

theorem acceptSound_acts {kind : CellKind} {cell : Cell} (ha : (s.chan c).state = .active)
    (hsound : headerSound kind cell.header = true) : s.Acts (s.acceptSound c kind cell) := by
  have hopen : (s.chan c).state ≠ .closed := by simp [ha]
  unfold State.acceptSound
  split
  · exact rejectE_acts ha
  · rename_i sel hsel
    split
    · exact (countJ_acts hopen).trans (raiseSyncLoss_acts (by rw [chan_modChan_same]; exact ha))
    · exact countR_acts hopen
    · exact countR_acts hopen
    · exact checkTraffic_acts ha hsel ‹_› hsound

theorem acceptTraffic_acts (s : State) (c : Fin 48) (kind : CellKind) (cell : Cell) :
    s.Acts (s.acceptTraffic c kind cell) := by
  unfold State.acceptTraffic
  split
  · exact headerError_acts s c
  · rename_i ha
    have ha : (s.chan c).state = .active := not_not.1 ha
    split
    · exact headerError_acts s c
    · rename_i hmatch
      split
      · exact countWithheld_acts (by simp [ha])
      · refine acceptSound_acts ha ?_
        simp only [Bool.not_eq_true, Bool.not_eq_false', Bool.and_eq_true] at hmatch
        exact hmatch.1

theorem dataArrival_acts (s : State) (c : Fin 48) (x : Option Cell) : s.Acts (s.dataArrival c x) := by
  unfold State.dataArrival State.gap State.idleArrival
  split
  · split
    · exact countX_acts (by simp [*])
    · exact .refl s
  · split
    · split
      · exact countIdle_acts (by simp [*])
      · exact .refl s
    · exact acceptTraffic_acts s c _ _
    · exact acceptTraffic_acts s c _ _
    · exact headerError_acts s c

/-! ## Control cells (R77, R81, R109 to R118, R127 to R135) -/

theorem judgeMark_acts {sel : Selection} {tag : BitVec 2} (hsel : (s.chan c).select tag = some sel) (cell : Cell) :
    s.Acts (s.judgeMark c sel cell) := by
  unfold State.judgeMark
  split
  · rename_i h
    simp only [Channel.answers, Bool.and_eq_true, decide_eq_true_eq] at h
    obtain ⟨⟨⟨ha, -⟩, -⟩, -⟩ := h
    have hwindow : s.Acts _ := .record (.window true (sel.window.anchor (markNext (cellPayload cell)).toNat) ha
      fun hw => (hw.selected hsel).anchor _)
    have hend := modChan_acts (s := s.setChan c ((s.chan c).setWindow true
      (sel.window.anchor (markNext (cellPayload cell)).toNat))) (c := c)
      (f := fun r => { r.endExchange with sync := .suspended, syncLoss := 0 })
      (.resynced .suspended (by rw [chan_setChan_same]; exact ha))
    simpa [State.modChan, Channel.anchored] using hwindow.trans hend
  · exact .stray s

theorem judgeResync_acts (s : State) (c : Fin 48) (cell : Cell) : s.Acts (s.judgeResync c cell) := by
  unfold State.judgeResync
  split
  · exact modChan_acts (.answered _ ‹_›)
  · exact .stray s

theorem verifyAccept_acts {p : PendingEntry} (hopen : (s.chan c).state ≠ .closed) (hr : (s.chan c).renewal = .offered)
    (hp : (s.chan c).pendingEntry = some p) (cell : Cell) : s.Acts (s.verifyAccept c p cell) := by
  unfold State.verifyAccept
  split
  · exact countT_acts hopen
  · rename_i keys _
    split
    · have hagree : s.Acts _ := .record (.agreed p keys hr hp)
      have hg := countG_acts (s := s.setChan c ((s.chan c).agree p keys)) (c := c) (by
        rw [chan_setChan_same]
        exact hopen)
      simpa [State.modChan] using hagree.trans hg
    · exact countT_acts hopen

theorem judgeAccept_acts (s : State) (c : Fin 48) (cell : Cell) : s.Acts (s.judgeAccept c cell) := by
  unfold State.judgeAccept
  split
  · exact .stray s
  · rename_i ht
    have hopen : (s.chan c).state ≠ .closed := by
      rcases (triggerable_iff _).1 (by simpa using ht) with h | h <;> simp [h]
    split
    · exact .stray s
    · exact .refl s
    · exact .refl s
    · split
      · exact .stray s
      · split
        · exact verifyAccept_acts hopen ‹_› ‹_› cell
        · exact .stray s

theorem handleControl_acts {sel : Selection} {tag : BitVec 2} (hsel : (s.chan c).select tag = some sel) (k : CellKind)
    (cell : Cell) : s.Acts (s.handleControl c k sel cell) := by
  unfold State.handleControl
  split
  · exact judgeRequest_acts s c
  · exact judgeResync_acts s c _
  · exact judgeMark_acts hsel _
  · exact .refl s

theorem judgeControl_acts (s : State) (c : Fin 48) (k : CellKind) (cell : Cell) : s.Acts (s.judgeControl c k cell) := by
  unfold State.judgeControl
  split
  · exact .stray s
  · rename_i ha
    have hopen : (s.chan c).state ≠ .closed := by simp [not_not.1 ha]
    split
    · exact countE_acts hopen
    · rename_i sel hsel
      split
      · refine (countG_acts hopen).trans (handleControl_acts (tag := headerEpochTag cell.header) ?_ k cell)
        rw [chan_modChan_same]
        exact hsel
      · exact countT_acts hopen

theorem routeControl_acts (h : (s.chan c).state ≠ .closed) (k : CellKind) (cell : Cell) :
    s.Acts (s.routeControl c k cell) := by
  unfold State.routeControl
  split
  · exact countE_acts h
  · split
    · exact judgeAccept_acts s c _
    · exact judgeControl_acts s c _ _

theorem dispatch_acts (s : State) (k : CellKind) (cell : Cell) : s.Acts (s.dispatch k cell) := by
  unfold State.dispatch
  split
  · exact .stray s
  · split
    · exact .stray s
    · split
      · exact .stray s
      · exact routeControl_acts ‹_› k cell

theorem controlArrival_acts (s : State) (x : Option Cell) : s.Acts (s.controlArrival x) := by
  unfold State.controlArrival
  split
  · exact .refl s
  · split
    · exact .stray s
    · exact .refl s
    · exact .stray s
    · exact .stray s
    · exact dispatch_acts s _ _

/-- The load event of a CONTROL slot sends a cell, or leaves IDLE (R127, R128). -/
theorem loadControl_acts {t : State} (h : s.loadControl = some t) : s.Acts t := by
  unfold State.loadControl at h
  split at h
  · exact Option.some.inj h ▸ lineOut_acts s _
  · rename_i c _
    split at h
    · exact Option.some.inj h ▸ lineOut_acts s _
    · rename_i x rest hcells
      obtain ⟨cell, -, rfl⟩ := Option.map_eq_some_iff.1 h
      have hsent : s.Acts _ := .record (.sent x rest hcells)
      refine hsent.trans (.same ?_)
      have htail : (s.chan c).pendingCells.tail = rest := by rw [hcells, List.tail_cons]
      constructor
      case channels => simp [State.sendControl, State.modChan, htail]
      all_goals rfl

theorem loadEvent_acts {t : State} {k : SlotKind} (h : s.loadEvent k = some t) : s.Acts t := by
  cases k with
  | unused => exact Option.some.inj h ▸ lineOut_acts s _
  | data c => exact Option.some.inj h ▸ loadData_acts s c
  | control => exact loadControl_acts h

/-! ## The works of a tick -/

theorem presenceExpired_acts (s : State) (p : Port) : s.Acts (s.presenceExpired p) := by
  unfold State.presenceExpired
  split
  · exact (State.Acts.link s p { s.link p with present := false, timer := 0 } fun h =>
      { h with timer := Nat.zero_le _, absent := fun _ => rfl }).trans (raise_acts _ _ _ _ _)
  · exact .refl s

theorem work_acts (s : State) (w : TickWork) : s.Acts (s.work w) := by
  cases w with
  | keyingEntry c => exact keyingEntry_acts s c
  | closingEnd c => exact closingEnd_acts s c
  | ageTrigger c => exact judgeAge_acts s c
  | holdOffEnd c => exact startIfDue_acts s c
  | offerExpiry c => exact offerExpired_acts s c
  | resyncExpiry c => exact resyncExpired_acts s c
  | cutoverExpiry c => exact cutoverExpired_acts s c
  | silence c => exact judgeSilence_acts s c
  | score c => exact scoreChannel_acts s c
  | presence p => exact presenceExpired_acts s p

theorem carryOut_acts (s : State) (ws : List TickWork) : s.Acts (s.carryOut ws) :=
  carryOut_keeps (P := s.Acts) (fun _ w h => h.trans (work_acts _ w)) s ws (.refl s)

end Sys2Proof.Machine
end

section
/-! PROOFS. What a step may do. `State.Evolves` adds to the changes of `State.Acts` those that the operations on records do
not make: the part-wide blocks, a tick, the master key store, and a reset. Every command and every event is made of them. -/

namespace Sys2Proof.Machine

/-! ## The values of a reset (R180) -/

theorem freshLink_sound : PortLink.fresh.Sound := by
  refine ⟨?_, nofun, ?_, ?_, fun _ => rfl, ?_⟩ <;> decide

theorem reset_trunkSound : State.reset.TrunkSound := by
  refine ⟨?_, rfl, ?_, ?_, nofun, nofun, ?_, nofun⟩ <;> decide

theorem reset_paramsSound : State.reset.ParamsSound := by
  constructor <;> decide

/-- Two states agree in the records, the queues, the port links and the log. -/
structure State.SameRecords (s t : State) : Prop where
  channels : t.channels = s.channels
  masters : t.masters = s.masters
  inboundA : t.inboundA = s.inboundA
  inboundB : t.inboundB = s.inboundB
  portA : t.portA = s.portA
  portB : t.portB = s.portB
  portK : t.portK = s.portK
  log : t.log = s.log

namespace State.SameRecords

variable {s t : State}

theorem chan (h : s.SameRecords t) (c : Fin 48) : t.chan c = s.chan c := by rw [State.chan, h.channels, ← State.chan]

theorem inbound (h : s.SameRecords t) (q : Service) : t.inbound q = s.inbound q := by
  cases q
  · exact h.inboundA
  · exact h.inboundB

theorem link (h : s.SameRecords t) (p : Port) : t.link p = s.link p := by
  cases p
  · exact h.portA
  · exact h.portB
  · exact h.portK

end State.SameRecords

/-- The state t has the values of a reset: closed records, empty queues, and the parts of the part in their ranges. -/
structure State.AfterReset (t : State) : Prop where
  chan : ∀ c, t.chan c = Channel.closedValues
  inbound : ∀ q, t.inbound q = []
  link : ∀ p, (t.link p).Sound
  trunk : t.TrunkSound
  params : t.ParamsSound

/-- The changes that a step is made of; the master keys change only where `keys` says so (R96). -/
inductive State.Evolves (keys : Bool) : State → State → Prop
  | acts {s t : State} (h : s.Acts t) : Evolves keys s t
  | trans {s t u : State} (h : Evolves keys s t) (k : Evolves keys t u) : Evolves keys s u
  /-- the timebase, the sequencer, the parameters and the rest of the part-wide state -/
  | part {s t : State} (h : s.SameRecords t) (htrunk : s.TrunkSound → t.TrunkSound)
      (hparams : s.ParamsSound → t.ParamsSound) : Evolves keys s t
  /-- a master key slot is loaded, or one that no channel is bound to is emptied (R91, R93) -/
  | master {s : State} (hk : keys = true) (m : Fin 4) (v : MasterSlot)
      (hv : v ≠ .empty ∨ ∀ c, (s.chan c).state ≠ .closed → (s.chan c).master ≠ some m) : Evolves keys s (s.setMaster m v)
  /-- a tick, whose phase is 0 (R26, R30) -/
  | tick (s : State) (kind : TickKind) (order : List TickWork) (h : s.timebase.phase = 0) :
      Evolves keys s (s.tick kind order)
  /-- a reset (R180) -/
  | restart {s t : State} (h : t.AfterReset) (hlog : s.log.Grows t.log) (hk : keys = true ∨ t.masters = s.masters) :
      Evolves keys s t

variable {keys : Bool} {s t : State}

theorem State.Evolves.refl (s : State) : s.Evolves keys s := .acts (.refl s)

theorem whileRunning_evolves {f : State → State} (h : s.Evolves keys (f s)) : s.Evolves keys (s.whileRunning f) := by
  unfold State.whileRunning
  split
  · exact .refl s
  · exact h

/-- An event that acts on records only, and not while the reset line is asserted. -/
theorem whileRunning_acts {f : State → State} (h : s.Acts (f s)) : s.Evolves keys (s.whileRunning f) :=
  whileRunning_evolves (.acts h)

/-! ## Taking a command -/

theorem taken_acts (s : State) (p : Port) : s.Acts (s.taken p) :=
  (State.Acts.link s p { s.link p with queue := (s.link p).queue.tail } fun h =>
    { h with length := (List.length_tail ▸ Nat.sub_le _ _).trans h.length
             frames := fun f hf => h.frames f (List.mem_of_mem_tail hf) }).trans
    (.same (by cases p <;> constructor <;> rfl))

theorem respond_acts (s : State) (p : Port) (tag code : Byte) (k : Completion) (results : List Byte) :
    s.Acts (s.respond p tag code k results) := .same (by constructor <;> rfl)

theorem taking_evolves {p : Port} {tag code : Byte} {params : List Byte} {body : State → Answer}
    (h : ∀ t, State.Evolves keys t (body t).state) : s.Evolves keys (s.taking p tag code params body) := by
  refine taking_keeps (P := State.Evolves keys s) p tag code params body (.refl s)
    (fun h => h.trans (.acts (taken_acts s p))) (fun t ht => ht.trans (h t))
    fun t k results ht => ht.trans (.acts (respond_acts t p tag code k results))

theorem fromService_evolves {p : Port} {body : Service → State → Answer}
    (h : ∀ q, State.Evolves keys s (body q s).state) : s.Evolves keys (fromService p body s).state :=
  fromService_keeps p body s (.refl s) h

/-! ## Channel commands (R9, R13 to R17, R80, R121) -/

theorem adoptFor_acts {c : Fin 48} (h : (s.chan c).state ≠ .closed) (q : Service) : s.Acts (s.adoptFor c q) := by
  unfold State.adoptFor
  split
  · exact .refl s
  · exact .adopt s [c] q (List.nodup_singleton c) fun d hd => List.mem_singleton.1 hd ▸ h

/-- Adoption of one channel changes of its record the serving port and the D count only. -/
theorem adoptFor_chan (s : State) (c : Fin 48) (q : Service) :
    (s.adoptFor c q).chan c = s.chan c ∨ ∃ n, (s.adoptFor c q).chan c = (s.chan c).adopted n q := by
  unfold State.adoptFor
  split
  · exact .inl rfl
  · rw [adoptAll_chan s [c] (List.nodup_singleton c), if_pos List.mem_cons_self]
    exact .inr ⟨_, rfl⟩

/-- A channel command has an effect that changes records, where its own checks, which read neither the serving port nor the
counts, let the record through. -/
theorem channelCommand_evolves {p : Port} {channel : Byte} {own : Channel → Option Completion}
    {effect : Fin 48 → State → Answer} (hown : ∀ r n q, own (Channel.adopted r n q) = own r)
    (h : ∀ (t : State) c, (t.chan c).state ≠ .closed → own (t.chan c) = none → t.Acts (effect c t).state) :
    s.Evolves keys (channelCommand p channel own effect s).state := by
  rcases channelCommand_cases p channel own effect s with ⟨code, e⟩ | ⟨q, c, -, -, hopen, -, hnone, e⟩ <;> rw [e]
  · exact .refl s
  · refine .acts ((adoptFor_acts hopen q).trans (h _ c ?_ ?_))
    · rcases adoptFor_chan s c q with e | ⟨n, e⟩ <;> rw [e] <;> exact hopen
    · rcases adoptFor_chan s c q with e | ⟨n, e⟩ <;> rw [e]
      · exact hnone
      · rw [hown]
        exact hnone

theorem closeEffect_acts {c : Fin 48} (h : (s.chan c).state ≠ .closed) : s.Acts (closeEffect c s).state := by
  have hc := State.Acts.close s c (s.chan c).closing (.inr ⟨h, rfl⟩)
  simpa [closeEffect, State.modChan] using hc

theorem setChannelEffect_acts {c : Fin 48} (h : (s.chan c).state ≠ .closed) (preset ageLimit : Nat) :
    s.Acts (setChannelEffect preset ageLimit c s).state :=
  (modChan_acts (.parameters preset ageLimit h)).trans (judgeAge_acts _ c)

theorem sendEffect_acts {c : Fin 48} {data : List Byte} (hd : ¬ (data.length = 0 ∨ 48 < data.length))
    (h : (s.chan c).state ≠ .closed) (hown : refusedSend (s.chan c) = none) : s.Acts (sendEffect data c s).state := by
  refine .record (.queued (outboundCell data) h ?_ (by simp only [outboundCell]; omega))
  unfold refusedSend at hown
  split at hown
  · cases hown
  · split at hown
    · cases hown
    · exact not_le.1 ‹_›

theorem resumeEffect_acts {c : Fin 48} (hown : refusedResume (s.chan c) = none) : s.Acts (resumeEffect c s).state := by
  unfold refusedResume at hown
  split at hown
  · exact .record (.resumed ‹_›)
  · cases hown

/-! ## OPEN, TAKE, ADOPT -/

theorem openBody_acts (channel : Byte) (shop : BitVec 32) (slot serving : Byte) (s : State) :
    s.Acts (openBody channel shop slot serving s).state := by
  unfold openBody
  split
  · rename_i c m q _ _ _
    split
    · exact .refl s
    · split
      · exact .refl s
      · split
        · exact .refl s
        · rename_i hshop hclosed hmaster
          exact .record (.opened m shop q (not_not.1 hclosed)
            (masterEmpty_eq_false_iff.1 (Bool.eq_false_iff.2 hmaster)) hshop)
  · exact .refl s

theorem takeBody_acts (q : Service) (s : State) : s.Acts (takeBody q s).state := by
  unfold takeBody
  split
  · exact .refl s
  · rename_i h
    have := State.Acts.take s q
    rwa [h, List.tail_cons] at this

theorem adoptBody_acts (channel : Byte) (p : Service) (s : State) : s.Acts (adoptBody channel p s).state := by
  unfold adoptBody adoptEvery
  split
  · split
    · exact .refl s
    · refine .adopt s _ p ((List.nodup_finRange 48).filter _) fun c hc => ?_
      have := (List.mem_filter.1 hc).2
      simp only [Bool.and_eq_true, decide_eq_true_eq] at this
      exact this.1
  · split
    · unfold adoptOne
      split
      · exact .refl s
      · split
        · exact .refl s
        · split
          · exact .refl s
          · exact .adopt s _ p (List.nodup_singleton _) fun d hd => List.mem_singleton.1 hd ▸ ‹_›
    · exact .refl s

/-! ## Parameters -/

/-- A change of the parameters alone. -/
theorem params_evolves (h : s.SameRecords t) (ht : t.timebase = s.timebase ∧ t.sequencer = s.sequencer)
    (hparams : s.ParamsSound → t.ParamsSound) : s.Evolves keys t := by
  refine .part h (fun hs => ?_) hparams
  obtain ⟨h1, h2, h3, h4, h5, h6, h7, h8⟩ := hs
  constructor <;> first | rwa [ht.1, ht.2] | rwa [ht.1] | rwa [ht.2]

/-- A change of the sequencer alone that keeps the law of the trunk. -/
theorem sequencer_evolves {q : Sequencer} (h : s.TrunkSound → State.TrunkSound { s with sequencer := q }) :
    s.Evolves keys { s with sequencer := q } :=
  .part (by constructor <;> rfl) h fun hp => by
    obtain ⟨h1, h2, h3, h4, h5, h6, h7, h8, h9, h10, h11, h12⟩ := hp
    exact ⟨h1, h2, h3, h4, h5, h6, h7, h8, h9, h10, h11, h12⟩

theorem clamp_range {lo hi : Nat} (h : lo ≤ hi) (n : Nat) : lo ≤ clamp lo hi n ∧ clamp lo hi n ≤ hi := by
  unfold clamp
  omega

theorem clampFrame_inRange (f : FrameParams) : (clampFrame f).InRange := by
  obtain ⟨h1, h2⟩ := clamp_range (show 8 ≤ 64 by decide) f.slots
  obtain ⟨h3, h4⟩ := clamp_range (show 256 ≤ 65535 by decide) f.beatLen
  obtain ⟨h5, h6⟩ := clamp_range (lo := 1) (hi := clamp 256 65535 f.beatLen / 4) (by omega) f.slip
  obtain ⟨h7, h8⟩ := clamp_range (show 2 ≤ 15 by decide) f.loss
  exact ⟨h1, h2, h3, h4, h5, h6, h7, h8⟩

theorem setSyncBody_evolves (given : ReceiveParams) : s.Evolves keys (setSyncBody given s).state :=
  params_evolves (by constructor <;> rfl) ⟨rfl, rfl⟩ fun h =>
    { h with jump := clamp_range (by decide) _, threshold := clamp_range (by decide) _ }

theorem setRenewalBody_evolves (given : RenewalParams) : s.Evolves keys (setRenewalBody given s).state :=
  params_evolves (by constructor <;> rfl) ⟨rfl, rfl⟩ fun h =>
    { h with tOffer := clamp_range (by decide) _, retryLimit := (clamp_range (show 0 ≤ 7 by decide) _).2
             cutover := clamp_range (by decide) _ }

theorem setPresenceBody_evolves (given : Nat) : s.Evolves keys (setPresenceBody given s).state :=
  params_evolves (by constructor <;> rfl) ⟨rfl, rfl⟩ fun h => { h with presence := clamp_range (by decide) _ }

theorem setQualityBody_evolves (given : QualityParams) : s.Evolves keys (setQualityBody given s).state := by
  unfold setQualityBody
  dsimp only
  split
  · exact .refl s
  · rename_i hle
    exact params_evolves (by constructor <;> rfl) ⟨rfl, rfl⟩ fun h =>
      { h with period := clamp_range (by decide) _
               thresholds := ⟨not_le.1 hle, (clamp_range (show 0 ≤ 1000 by decide) given.high).2⟩
               storm := clamp_range (by decide) _, silence := clamp_range (by decide) _ }

theorem setFrameBody_evolves (given : FrameParams) : s.Evolves keys (setFrameBody given s).state :=
  sequencer_evolves fun h => { h with pendingFrame := fun _ hf => Option.some.inj hf ▸ clampFrame_inRange given }

theorem assignSlotBody_evolves (slot kind channel : Byte) : s.Evolves keys (assignSlotBody slot kind channel s).state := by
  unfold assignSlotBody
  split
  · exact sequencer_evolves fun h => { h with }
  · exact .refl s

/-! ## Port links -/

theorem setAttentionBody_acts (p : Port) (mask : Byte) (s : State) : s.Acts (setAttentionBody p mask s).state := by
  unfold setAttentionBody
  split
  · exact .refl s
  · exact .link s p { s.link p with mask := mask } fun h => { h with mask := not_le.1 ‹_› }

theorem readFaultBody_acts (p : Port) (s : State) : s.Acts (readFaultBody p s).state := by
  unfold readFaultBody
  split
  · exact .refl s
  · exact .link s p { s.link p with cursor := _ } fun h => { h with }

theorem refreshPresence_acts (s : State) (p : Port) : s.Acts (s.refreshPresence p) := by
  have hl : s.Acts (s.setLink p { s.link p with present := true, timer := 0 }) :=
    .link s p _ fun h => { h with timer := Nat.zero_le _, absent := fun _ => rfl }
  unfold State.refreshPresence
  dsimp only
  split
  · exact hl
  · exact hl.trans (raise_acts _ _ _ _ _)

theorem frameArrival_acts (s : State) (p : Port) (bytes : List Byte) : s.Acts (s.frameArrival p bytes) := by
  unfold State.frameArrival
  split
  · rename_i hformed
    refine (refreshPresence_acts s p).trans ?_
    unfold State.enqueueFrame
    split
    · rename_i hroom
      refine .link _ p _ fun h =>
        { h with length := by rw [List.length_append]; exact hroom, frames := fun f hf => ?_ }
      rcases List.mem_append.1 hf with hf | hf
      · exact h.frames f hf
      · exact List.mem_singleton.1 hf ▸ hformed
    · split
      · exact respond_acts _ _ _ _ _ _
      · exact .refl _
  · have hl : s.Acts (s.setLink p { s.link p with framing := bump (s.link p).framing }) :=
      .link s p _ fun h => { h with framing := bump_le _ }
    unfold State.malformed
    dsimp only
    split
    · exact hl.trans (respond_acts _ _ _ _ _ _)
    · exact hl

theorem presenceExpiry_acts (s : State) (p : Port) : s.Acts (s.presenceExpiry p) := by
  unfold State.presenceExpiry
  dsimp only
  split
  · refine (State.Acts.link s p (s.link p).tick fun h => ?_).trans (presenceExpired_acts _ p)
    unfold PortLink.tick
    split
    · rename_i hpresent
      exact { h with timer := bump_le _, absent := fun habsent => by simp [hpresent] at habsent }
    · exact h
  · exact .refl s

/-! ## The master key store (R90 to R93) -/

theorem loadMasterBody_evolves (slot : Byte) (key : Block) : s.Evolves true (loadMasterBody slot key s).state := by
  unfold loadMasterBody
  split
  · exact .refl s
  · rename_i m _
    split
    · exact .refl s
    · exact .master rfl m _ (.inl (by simp))

theorem closeAll_acts (s : State) (cs : List (Fin 48)) : s.Acts (s.closeAll cs) := by
  induction cs generalizing s with
  | nil => exact .refl s
  | cons c cs ih => exact (closeNow_acts s c).trans (ih _)

theorem eraseSlot_evolves (s : State) (m : Fin 4) : s.Evolves true (s.eraseSlot m) := by
  refine ((State.Evolves.acts (closeAll_acts s (s.boundChannels m))).trans (.master rfl m .empty (.inr ?_))).trans
    (.acts (raise_acts _ _ _ _ _))
  intro c hc hm
  rw [closeAll_chan] at hc hm
  split at hc
  · exact hc rfl
  · rename_i hnot
    rw [if_neg hnot] at hm
    exact hnot (mem_boundChannels.2 ⟨hc, hm⟩)

theorem eraseMasterBody_evolves (slot : Byte) : s.Evolves true (eraseMasterBody slot s).state := by
  unfold eraseMasterBody
  split
  · exact .refl s
  · split
    · exact .refl s
    · exact eraseSlot_evolves s _

/-- From a port that the code is not open to, the taking changes no record and no key (R171). -/
theorem taking_evolves_of_refused {p : Port} {tag code : Byte} {params : List Byte} (body : State → Answer)
    (h : admittedOn p code = false) : s.Evolves keys (s.taking p tag code params body) := by
  unfold State.taking
  split
  · rw [judge_privilege body h]
    exact .acts ((taken_acts s p).trans (respond_acts _ _ _ _ _ _))
  · exact .refl s

/-! ## Resets (R180) -/

theorem afterReset_of_reset (h : ∀ c, t.chan c = Channel.closedValues) (hin : ∀ q, t.inbound q = [])
    (hlink : ∀ p, t.link p = PortLink.fresh) (ht : t.timebase = State.reset.timebase)
    (hq : t.sequencer = State.reset.sequencer) (hparams : t.ParamsSound) : t.AfterReset := by
  refine ⟨h, hin, fun p => hlink p ▸ freshLink_sound, ?_, hparams⟩
  obtain ⟨h1, h2, h3, h4, h5, h6, h7, h8⟩ := reset_trunkSound
  constructor <;> first | rwa [ht, hq] | rwa [ht] | rwa [hq]

theorem warmReset_afterReset (s : State) : s.warmReset.AfterReset := by
  obtain ⟨h1, h2, h3, h4, h5, h6, h7, h8, h9, h10, h11, h12⟩ := reset_paramsSound
  exact afterReset_of_reset reset_chan reset_inbound reset_link rfl rfl
    ⟨h1, h2, h3, h4, h5, h6, h7, h8, h9, h10, h11, h12⟩

theorem reset_grows (s : State) : s.log.Grows s.powerOn.log :=
  ⟨le_rfl, fun _ _ => ⟨Nat.zero_le _, rfl, nofun, Nat.zero_le _, nofun⟩⟩

theorem warmReset_evolves (s : State) : s.Evolves keys s.warmReset :=
  .restart (warmReset_afterReset s) (reset_grows s) (.inr rfl)

theorem powerOn_evolves (s : State) : s.Evolves true s.powerOn := by
  obtain ⟨h, hin, hlink, htrunk, hparams⟩ := warmReset_afterReset s
  obtain ⟨h1, h2, h3, h4, h5, h6, h7, h8⟩ := htrunk
  obtain ⟨k1, k2, k3, k4, k5, k6, k7, k8, k9, k10, k11, k12⟩ := hparams
  exact .restart ⟨h, hin, hlink, ⟨h1, h2, h3, h4, h5, h6, h7, h8⟩, ⟨k1, k2, k3, k4, k5, k6, k7, k8, k9, k10, k11, k12⟩⟩
    (reset_grows s) (.inl rfl)

/-! ## The timebase and the slots (R26 to R37) -/

/-- A change of the timebase and the sequencer that keeps the law of the trunk. -/
theorem timebase_evolves {b : Timebase} {q : Sequencer}
    (h : s.TrunkSound → State.TrunkSound { s with timebase := b, sequencer := q }) :
    s.Evolves keys { s with timebase := b, sequencer := q } :=
  .part (by constructor <;> rfl) h fun hp => by
    obtain ⟨h1, h2, h3, h4, h5, h6, h7, h8, h9, h10, h11, h12⟩ := hp
    exact ⟨h1, h2, h3, h4, h5, h6, h7, h8, h9, h10, h11, h12⟩

/-- What the line is given is no part of any law. -/
theorem lineOut_evolves (s : State) (x : Option Cell) : s.Evolves keys { s with lineOut := x } := .acts (lineOut_acts s x)

theorem judgeLoss_evolves (s : State) : s.Evolves keys s.judgeLoss := by
  have hl : s.Evolves keys s.loseTrunk :=
    timebase_evolves fun h => { h with acquire := rfl, kept := nofun, loadDue := nofun }
  unfold State.judgeLoss
  split
  · split
    · exact hl.trans (.acts (raise_acts _ _ _ _ _))
    · exact hl
  · exact .refl s

/-- Losing the trunk leaves the phase. -/
theorem judgeLoss_phase (s : State) : s.judgeLoss.timebase.phase = s.timebase.phase := by
  unfold State.judgeLoss
  split
  · split <;> rfl
  · rfl

theorem wrap_evolves (s : State) (order : List TickWork) : s.Evolves keys (s.wrap order) := by
  have hwrap : s.Evolves keys
      { s with timebase := { s.timebase with phase := 0, beats := min 15 (s.timebase.beats + 1) } } :=
    timebase_evolves (q := s.sequencer) fun h =>
      { h with phase := (by decide : 0 < 256).trans_le h.frame.2.2.1, beats := Nat.min_le_left _ _ }
  unfold State.wrap State.beatTick
  refine (hwrap.trans (judgeLoss_evolves _)).trans ?_
  split
  · exact .refl _
  · exact .tick _ _ _ (by rw [judgeLoss_phase])

theorem phaseUnit_evolves (s : State) (order : List TickWork) : s.Evolves keys (s.phaseUnit order) := by
  unfold State.phaseUnit
  split
  · exact timebase_evolves (q := s.sequencer) fun h => { h with phase := ‹_› }
  · exact wrap_evolves s order

theorem judgeLockedMarker_eq (s : State) (deviation : Nat) :
    s.judgeLockedMarker deviation = { s with log := (s.judgeLockedMarker deviation).log } := by
  unfold State.judgeLockedMarker
  dsimp only
  split <;> split <;> rfl

theorem judgeMarker_evolves (s : State) (deviation : Nat) : s.Evolves keys (s.judgeMarker deviation) := by
  unfold State.judgeMarker
  split
  · rename_i hlost
    refine timebase_evolves (q := s.sequencer) fun h => { h with acquire := rfl, kept := fun hk => ?_ }
    have := h.kept hk
    rw [hlost] at this
    cases this
  · rename_i hacquiring
    split
    · refine (timebase_evolves (q := s.sequencer) fun h => ?_).trans (.acts (raise_acts _ _ _ _ _))
      exact { h with acquire := rfl, kept := fun _ => rfl }
    · refine timebase_evolves (q := s.sequencer) fun h => { h with acquire := ?_ }
      show 1 = s.timebase.trunk.acquireCount
      rw [hacquiring]
      rfl
  · rw [judgeLockedMarker_eq]
    exact .acts (.log s _ (judgeLockedMarker_grows s deviation))

theorem marker_evolves (s : State) (order : List TickWork) : s.Evolves keys (s.marker order) := by
  unfold State.marker
  dsimp only
  refine ((judgeMarker_evolves s _).trans (timebase_evolves fun h => ?_)).trans (.tick _ _ _ rfl)
  exact { h with phase := (by decide : 0 < 256).trans_le h.frame.2.2.1, beats := Nat.zero_le _, slot := Nat.zero_le _ }

theorem takeDueLoad_evolves (h : s.takeDueLoad = some t) : s.Evolves keys t := by
  rcases takeDueLoad_cases h with ⟨-, rfl⟩ | ⟨k, -, hk, hload⟩
  · exact .refl _
  · refine .trans (sequencer_evolves fun h => ?_) (.acts (loadEvent_acts hload))
    exact { h with kept := fun _ => h.kept (hk ▸ rfl), loadDue := nofun }

theorem openSlot_evolves (s : State) : s.Evolves keys s.openSlot := by
  rcases openSlot_cases s with ⟨-, e⟩ | ⟨k, hk, e⟩ <;> rw [e]
  · exact .trans (sequencer_evolves (q := { s.sequencer with kept := none, loadDue := false }) fun h =>
      { h with kept := nofun, loadDue := nofun }) (lineOut_evolves (s.keep none) s.unservedOut)
  · have hlocked : s.timebase.trunk = .locked := by
      unfold State.servedEntry at hk
      split at hk
      · exact (‹_ ∧ _› : _).1
      · cases hk
    exact .trans (sequencer_evolves (q := { s.sequencer with kept := some k, loadDue := true }) fun h =>
      { h with kept := fun _ => hlocked, loadDue := fun _ => rfl }) (lineOut_evolves _ none)

theorem beginSlot_evolves {load : LoadTime} (h : s.beginSlot load = some t) : s.Evolves keys t := by
  cases load with
  | now => exact (openSlot_evolves s).trans (takeDueLoad_evolves h)
  | later => exact Option.some.inj h ▸ openSlot_evolves s

theorem nextSlot_evolves (s : State) : s.Evolves keys s.nextSlot :=
  sequencer_evolves fun h => { h with slot := bump_le _ }

/-- An outcome is a next state, or the missing tagging entry stops it (R59). -/
theorem outcomeOf_eq_next {r : Option State} {t : State} : outcomeOf r = .next t ↔ r = some t := by
  cases r <;> simp [outcomeOf]

theorem execSlotBoundary_evolves {part : SlotPart} (h : execSlotBoundary s part = .next t) : s.Evolves keys t := by
  unfold execSlotBoundary at h
  split at h
  · exact Host.Outcome.next.inj h ▸ .refl s
  · split at h
    · obtain ⟨u, hu, hb⟩ := Option.bind_eq_some_iff.1 (outcomeOf_eq_next.1 h)
      exact ((takeDueLoad_evolves hu).trans (nextSlot_evolves u)).trans (beginSlot_evolves hb)
    · exact takeDueLoad_evolves (outcomeOf_eq_next.1 h)

theorem execFrameMarker_evolves {order : List TickWork} {load : LoadTime} (h : execFrameMarker order s load = .next t) :
    s.Evolves keys t := by
  unfold execFrameMarker at h
  split at h
  · exact Host.Outcome.next.inj h ▸ .refl s
  · obtain ⟨u, hu, hb⟩ := Option.bind_eq_some_iff.1 (outcomeOf_eq_next.1 h)
    exact ((takeDueLoad_evolves hu).trans (marker_evolves u order)).trans (beginSlot_evolves hb)

theorem periodEnd_evolves (s : State) (order : List TickWork) : s.Evolves keys (s.periodEnd order) := by
  unfold State.periodEnd
  split
  · have hstart : s.Evolves keys { s with periodTimer := 0 } :=
      params_evolves (by constructor <;> rfl) ⟨rfl, rfl⟩ fun h => { h with periodTimer := Nat.zero_le _ }
    exact hstart.trans (.acts (carryOut_acts _ _))
  · exact .refl s

theorem slotArrival_acts (s : State) (arrival : Option Cell) :
    s.Acts (s.dataSlotArrival arrival) ∧ s.Acts (s.controlSlotArrival arrival) := by
  constructor
  · unfold State.dataSlotArrival
    split
    · exact dataArrival_acts s _ _
    · exact .refl s
  · unfold State.controlSlotArrival
    split
    · exact controlArrival_acts s _
    · exact .refl s

/-! ## Every command and event -/

/-- The rows that may change the master keys (R87, R96, R180). -/
def mayChangeKeys : Instr → Bool
  | .loadMaster .k _ _ _ => true
  | .eraseMaster .k _ _ => true
  | .powerOn => true
  | _ => false

theorem loadMaster_evolves (p : Port) (tag slot : Byte) (key : Block) :
    s.Evolves (mayChangeKeys (.loadMaster p tag slot key))
      (s.taking p tag 0x30 (slot :: bigEndian 16 key.toNat) (loadMasterBody slot key)) := by
  cases p
  · exact taking_evolves_of_refused _ rfl
  · exact taking_evolves_of_refused _ rfl
  · exact taking_evolves fun t => loadMasterBody_evolves slot key

theorem eraseMaster_evolves (p : Port) (tag slot : Byte) :
    s.Evolves (mayChangeKeys (.eraseMaster p tag slot)) (s.taking p tag 0x31 [slot] (eraseMasterBody slot)) := by
  cases p
  · exact taking_evolves_of_refused _ rfl
  · exact taking_evolves_of_refused _ rfl
  · exact taking_evolves fun t => eraseMasterBody_evolves slot

/-- An event that answers a next state at once, whatever the state. -/
theorem evolves_of_next {u t : State} {o : Host.Outcome State Fault Refusal} (ho : o = .next u) (h : o = .next t)
    (hu : s.Evolves keys u) : s.Evolves keys t := by
  rw [ho] at h
  exact Host.Outcome.next.inj h ▸ hu

theorem command_evolves {p : Port} {tag code : Byte} {params : List Byte} {body : State → Answer} {i : Instr}
    (ho : exec i s = .next (s.taking p tag code params body)) (h : exec i s = .next t)
    (hbody : ∀ u, State.Evolves keys u (body u).state) : s.Evolves keys t :=
  evolves_of_next ho h (taking_evolves hbody)

theorem event_evolves {f : State → State} {i : Instr} (ho : exec i s = .next (s.whileRunning f)) (h : exec i s = .next t)
    (hf : s.Acts (f s)) : s.Evolves keys t :=
  evolves_of_next ho h (whileRunning_acts hf)

/-- A command that changes nothing but the responses. -/
theorem read_evolves {body : State → Answer} (h : ∀ u, (body u).state = u) (u : State) :
    State.Evolves keys u (body u).state := by
  rw [h]
  exact .refl u

theorem exec_evolves {i : Instr} (h : exec i s = .next t) : s.Evolves (mayChangeKeys i) t := by
  cases i with
  | openChannel =>
    exact command_evolves rfl h fun u => fromService_evolves fun _ => .acts (openBody_acts _ _ _ _ u)
  | closeChannel =>
    exact command_evolves rfl h fun u => channelCommand_evolves (fun _ _ _ => rfl) fun _ _ hc _ => closeEffect_acts hc
  | setChannel =>
    exact command_evolves rfl h fun u =>
      channelCommand_evolves (fun _ _ _ => rfl) fun _ _ hc _ => setChannelEffect_acts hc _ _
  | send p tag channel data =>
    refine command_evolves rfl h fun u => ?_
    unfold sendBody
    split
    · exact .refl u
    · exact channelCommand_evolves (fun _ _ _ => rfl) fun _ _ hc hown => sendEffect_acts ‹_› hc hown
  | readChannel p tag channel =>
    refine command_evolves rfl h fun u => fromService_evolves fun _ => read_evolves (fun u => ?_) u
    unfold readChannelBody
    split <;> rfl
  | assignSlot => exact command_evolves rfl h fun u => fromService_evolves fun _ => assignSlotBody_evolves _ _ _
  | setFrame => exact command_evolves rfl h fun u => fromService_evolves fun _ => setFrameBody_evolves _
  | readTrunk => exact command_evolves rfl h fun u => fromService_evolves fun _ => .refl u
  | readSlot =>
    refine command_evolves rfl h fun u => fromService_evolves fun _ => read_evolves (fun u => ?_) u
    unfold readSlotBody
    split <;> rfl
  | take => exact command_evolves rfl h fun u => fromService_evolves fun q => .acts (takeBody_acts q u)
  | resume =>
    exact command_evolves rfl h fun u => channelCommand_evolves (fun _ _ _ => rfl) fun _ _ _ hown => resumeEffect_acts hown
  | setSync => exact command_evolves rfl h fun u => fromService_evolves fun _ => setSyncBody_evolves _
  | loadMaster p tag slot key => exact evolves_of_next rfl h (loadMaster_evolves p tag slot key)
  | eraseMaster p tag slot => exact evolves_of_next rfl h (eraseMaster_evolves p tag slot)
  | renew =>
    exact command_evolves rfl h fun u => channelCommand_evolves (fun _ _ _ => rfl) fun t c _ _ => trigger_acts t c .command
  | setRenewal => exact command_evolves rfl h fun u => fromService_evolves fun _ => setRenewalBody_evolves _
  | readQuality =>
    refine command_evolves rfl h fun u => fromService_evolves fun _ => read_evolves (fun u => ?_) u
    unfold readQualityBody
    split <;> rfl
  | setQuality => exact command_evolves rfl h fun u => fromService_evolves fun _ => setQualityBody_evolves _
  | readFault p => exact command_evolves rfl h fun u => .acts (readFaultBody_acts p u)
  | status => exact command_evolves rfl h fun u => .refl u
  | clearStartup => exact command_evolves rfl h fun u => .acts (.same (by constructor <;> rfl))
  | present => exact command_evolves rfl h fun u => .refl u
  | setAttention p tag mask => exact command_evolves rfl h fun u => .acts (setAttentionBody_acts p mask u)
  | setPresence => exact command_evolves rfl h fun u => fromService_evolves fun _ => setPresenceBody_evolves _
  | adopt => exact command_evolves rfl h fun u => fromService_evolves fun q => .acts (adoptBody_acts _ q u)
  | reset => exact command_evolves rfl h fun u => .acts (.same (by constructor <;> rfl))
  | warmReset =>
    refine evolves_of_next rfl h (whileRunning_evolves ?_)
    split
    · exact warmReset_evolves s
    · exact .refl s
  | resetLine => exact evolves_of_next rfl h ((warmReset_evolves s).trans (.acts (.same (by constructor <;> rfl))))
  | resetLineRelease => exact evolves_of_next rfl h (.acts (.same (by constructor <;> rfl)))
  | powerOn => exact evolves_of_next rfl h (powerOn_evolves s)
  | frameArrival p bytes => exact event_evolves rfl h (frameArrival_acts s p bytes)
  | beat order => exact evolves_of_next rfl h (whileRunning_evolves (wrap_evolves s order))
  | trunkLoss => exact evolves_of_next rfl h (whileRunning_evolves (judgeLoss_evolves s))
  | frameMarker => exact execFrameMarker_evolves h
  | slotBoundary => exact execSlotBoundary_evolves h
  | hardLimit c => exact event_evolves rfl h (judgeHardLimit_acts s c)
  | presetTrigger c => exact event_evolves rfl h (judgePreset_acts s c)
  | dataSlotArrival x => exact event_evolves rfl h (slotArrival_acts s x).1
  | lossOfSync c => exact event_evolves rfl h (judgeSyncLoss_acts s c)
  | controlSlotArrival x => exact event_evolves rfl h (slotArrival_acts s x).2
  | tagStorm c => exact event_evolves rfl h (judgeStorm_acts s c)
  | keyingEntry c => exact event_evolves rfl h (keyingEntry_acts s c)
  | closingEnd c => exact event_evolves rfl h (closingEnd_acts s c)
  | ageTrigger c => exact event_evolves rfl h (judgeAge_acts s c)
  | holdOffEnd c => exact event_evolves rfl h (holdOffEnd_acts s c)
  | offerTimerExpiry c => exact event_evolves rfl h (offerTimerExpiry_acts s c)
  | resyncTimerExpiry c => exact event_evolves rfl h (resyncTimerExpiry_acts s c)
  | cutoverTimerExpiry c => exact event_evolves rfl h (cutoverTimerExpiry_acts s c)
  | silenceLimit c => exact event_evolves rfl h (silenceLimit_acts s c)
  | periodEnd order => exact evolves_of_next rfl h (whileRunning_evolves (periodEnd_evolves s order))
  | presenceExpiry p => exact event_evolves rfl h (presenceExpiry_acts s p)
  | phaseUnit order => exact evolves_of_next rfl h (whileRunning_evolves (phaseUnit_evolves s order))

/-! ## A step -/

theorem passTurn_acts (s : State) : s.Acts s.passTurn := by
  unfold State.passTurn
  split
  · exact .refl s
  · exact .log s _ ⟨le_rfl, fun _ h => FaultLog.SoundBelow.mono (log := { s.log with turns := s.log.turns.tail }) { h with }
      (le_max_left _ _)⟩

/-- A step is a turn of the log, an idle step, or a command or event on the state that only the command unit's own fields or
a turn of the log set apart from s. -/
theorem step_cases (s : State) :
    (∃ t, step s = .next t ∧ s.Acts t) ∨ ∃ i t, step s = exec i t ∧ s.Acts t := by
  unfold step
  split
  · exact .inr ⟨_, _, rfl, .same (by constructor <;> rfl)⟩
  · split
    · exact .inl ⟨_, rfl, .log s _ (turn_grows s.log s.link)⟩
    · split
      · exact .inr ⟨_, _, rfl, passTurn_acts s⟩
      · exact .inl ⟨_, rfl, passTurn_acts s⟩

theorem step_evolves (h : step s = .next t) : ∃ keys, s.Evolves keys t := by
  rcases step_cases s with ⟨u, hu, ha⟩ | ⟨i, u, hu, ha⟩
  · exact ⟨false, evolves_of_next hu h (.acts ha)⟩
  · exact ⟨_, (State.Evolves.acts ha).trans (exec_evolves (hu ▸ h))⟩

end Sys2Proof.Machine
end

section
/-! PROOFS. The laws that every step keeps (R153 to R159 of the log; R82 and R85 of the inbound queues; R98, R138 and the
rest of the records; R26 to R40 and the part-wide state; R96 of the master keys). -/

namespace Sys2Proof.Machine

variable {keys : Bool} {s t : State}

/-! ## Part-wide state -/

theorem advance_params (h : s.ParamsSound) (kind : TickKind) : (s.advance kind).ParamsSound := by
  obtain ⟨h1, h2, h3, h4, h5, h6, h7, h8, h9, h10, h11, h12⟩ := h
  refine ⟨h1, h2, h3, h4, h5, h6, h7, h8, h9, h10, h11, ?_⟩
  show s.periodAfter ≤ 65535
  unfold State.periodAfter
  split
  · exact Nat.zero_le _
  · exact bump_le _

/-- A tick takes the pending frame parameters into force, and so comes at phase 0 (R41). -/
theorem advance_trunk_sound (h : s.TrunkSound) (h0 : s.timebase.phase = 0) (kind : TickKind) :
    (s.advance kind).TrunkSound := by
  have hframe : (s.sequencer.pendingFrame.getD s.sequencer.frame).InRange := by
    cases hp : s.sequencer.pendingFrame with
    | none => exact h.frame
    | some f => exact h.pendingFrame f hp
  refine ⟨?_, h.acquire, h.beats, h.slot, h.kept, h.loadDue, hframe, nofun⟩
  show s.timebase.phase < _
  rw [h0]
  exact (by decide : 0 < 256).trans_le hframe.2.2.1

theorem PortLink.Sound.tick {l : PortLink} (h : l.Sound) : l.tick.Sound := by
  unfold PortLink.tick
  split
  · rename_i hp
    exact { h with timer := bump_le _, absent := fun ha => by simp [hp] at ha }
  · exact h

theorem State.Evolves.params (h : s.Evolves keys t) (hs : s.ParamsSound) : t.ParamsSound := by
  induction h with
  | acts h => exact h.params hs
  | trans _ _ ih ik => exact ik (ih hs)
  | part _ _ hp => exact hp hs
  | master _ m v =>
    obtain ⟨h1, h2, h3, h4, h5, h6, h7, h8, h9, h10, h11, h12⟩ := hs
    exact ⟨h1, h2, h3, h4, h5, h6, h7, h8, h9, h10, h11, h12⟩
  | tick s kind => exact (carryOut_acts (s.advance kind) _).params (advance_params hs kind)
  | restart h => exact h.params

theorem State.Evolves.trunk (h : s.Evolves keys t) (hs : s.TrunkSound) : t.TrunkSound := by
  induction h with
  | acts h => exact h.blocks.trunk hs
  | trans _ _ ih ik => exact ik (ih hs)
  | part _ ht => exact ht hs
  | master _ m v =>
    obtain ⟨h1, h2, h3, h4, h5, h6, h7, h8⟩ := hs
    exact ⟨h1, h2, h3, h4, h5, h6, h7, h8⟩
  | tick s kind _ h0 => exact (carryOut_acts (s.advance kind) _).blocks.trunk (advance_trunk_sound hs h0 kind)
  | restart h => exact h.trunk

theorem State.Evolves.links (h : s.Evolves keys t) (hs : ∀ p, (s.link p).Sound) : ∀ p, (t.link p).Sound := by
  induction h with
  | acts h => exact h.links hs
  | trans _ _ ih ik => exact ik (ih hs)
  | part h => exact fun p => h.link p ▸ hs p
  | master => exact hs
  | tick s kind => exact (carryOut_acts (s.advance kind) _).links fun p => advance_link s kind p ▸ (hs p).tick
  | restart h => exact h.link

/-- Settles O56: each change of the part-wide state keeps its ranges, and every other change leaves it. -/
theorem partWideStateStaysInRange : Obligations.PartWideStateStaysInRange := by
  intro s t htrunk hparams hlinks h
  obtain ⟨keys, h⟩ := step_evolves h
  exact ⟨h.trunk htrunk, h.params hparams, h.links hlinks⟩

/-! ## The fault log and the master keys -/

theorem State.Evolves.grows (h : s.Evolves keys t) : s.log.Grows t.log := by
  induction h with
  | acts h => exact h.grows
  | trans _ _ ih ik => exact ih.trans ik
  | part h => exact h.log ▸ .refl _
  | master => exact .refl _
  | tick s kind => exact (carryOut_acts (s.advance kind) _).grows
  | restart _ hlog => exact hlog

/-- Settles O55: the log only grows, by taken faults and by turns, and growth keeps it sound. -/
theorem faultLogStaysSound : Obligations.FaultLogStaysSound := by
  intro s t hs h
  obtain ⟨keys, h⟩ := step_evolves h
  exact h.grows.sound_of_sound hs

theorem State.Evolves.masters (h : s.Evolves false t) : t.masters = s.masters := by
  induction h with
  | acts h => exact h.blocks.masters
  | trans _ _ ih ik => exact ik.trans ih
  | part h => exact h.masters
  | master hk => cases hk
  | tick s kind => exact (carryOut_acts (s.advance kind) _).blocks.masters
  | restart _ _ hk => exact hk.resolve_left Bool.false_ne_true

theorem row_of_mayChangeKeys {i : Instr} (h : mayChangeKeys i = true) :
    (∃ tag slot key, i = .loadMaster .k tag slot key) ∨ (∃ tag slot, i = .eraseMaster .k tag slot) ∨ i = .powerOn := by
  cases i with
  | loadMaster p tag slot key =>
    cases p with
    | k => exact .inl ⟨tag, slot, key, rfl⟩
    | _ => exact absurd h Bool.false_ne_true
  | eraseMaster p tag slot =>
    cases p with
    | k => exact .inr (.inl ⟨tag, slot, rfl⟩)
    | _ => exact absurd h Bool.false_ne_true
  | powerOn => exact .inr (.inr rfl)
  | _ => exact absurd h Bool.false_ne_true

/-- Settles O59: every other row is made of changes that leave the master key store. -/
theorem onlyPortKChangesTheMasterKeys : Obligations.OnlyPortKChangesTheMasterKeys := by
  intro i s t h hne
  refine row_of_mayChangeKeys (not_ne_iff.1 fun hk => ?_)
  have he := exec_evolves h
  rw [Bool.eq_false_iff.2 hk] at he
  exact hne he.masters

/-! ## Laws of one record -/

/-- A law of a record that a tick keeps besides is kept by every change of a step, on a condition that every change
keeps. -/
theorem State.Evolves.record_keep {C : State → Prop} {P : Channel → Prop} (law : RecordLaw C P)
    (htick : ∀ r kind, P r → P (Channel.tick kind r)) (hC : ∀ keys (s t : State), s.Evolves keys t → C s → C t)
    (hevent : ∀ (s : State) n, C s → C (s.inEvent n)) (hadvance : ∀ (s : State) kind, C s → C (s.advance kind))
    (h : s.Evolves keys t) (hs : C s) (c : Fin 48) (hP : P (s.chan c)) : P (t.chan c) := by
  have hacts : ∀ s t : State, s.Acts t → C s → C t := fun s t h => hC false s t (.acts h)
  induction h with
  | acts h => exact h.record_keep law hacts hevent hs c hP
  | trans h _ ih ik => exact ik (hC _ _ _ h hs) (ih hs hP)
  | part h => exact h.chan c ▸ hP
  | master => exact hP
  | tick s kind order =>
    exact (carryOut_acts (s.advance kind) _).record_keep law hacts hevent (hadvance s kind hs) c
      (advance_chan s kind c ▸ htick _ kind hP)
  | restart h => exact h.chan c ▸ law.closed

/-- A law of a record that needs no condition of the state. -/
theorem State.Evolves.record_keep_always {P : Channel → Prop} (law : RecordLaw (fun _ => True) P)
    (htick : ∀ r kind, P r → P (Channel.tick kind r)) (h : s.Evolves keys t) (c : Fin 48) (hP : P (s.chan c)) :
    P (t.chan c) :=
  h.record_keep law htick (fun _ _ _ _ _ => trivial) (fun _ _ _ => trivial) (fun _ _ _ => trivial) trivial c hP

theorem windowsFit_law : RecordLaw (fun _ => True) Channel.WindowsFit where
  move _ _ _ _ m h := m.windowsFit h
  adopted _ _ _ h := ⟨h.current, h.previous⟩
  closing _ _ := ⟨nofun, nofun⟩
  closed := ⟨nofun, nofun⟩

theorem sequenceFits_law : RecordLaw (fun _ => True) Channel.SequenceFits where
  move _ _ _ _ m h := m.sequenceFits h
  adopted _ _ _ h := h.congr rfl rfl
  closing _ _ := rfl
  closed := rfl

/-- Settles O57: each change of a record keeps its windows and its next tx sequence within their limits. -/
theorem windowsAndSequencesStayWithinLimits : Obligations.WindowsAndSequencesStayWithinLimits := by
  intro s t hs h c
  obtain ⟨keys, h⟩ := step_evolves h
  exact ⟨h.record_keep_always windowsFit_law (fun r kind h => h.tick kind) c (hs c).1,
    h.record_keep_always sequenceFits_law (fun r kind h => h.tick kind) c (hs c).2⟩

theorem epochsNonzero_law : RecordLaw (fun _ => True) Channel.EpochsNonzero where
  move _ _ _ _ m h := m.epochsNonzero h
  adopted _ _ _ h := ⟨h.current, h.previous, h.pending⟩
  closing _ _ := ⟨nofun, nofun, nofun⟩
  closed := ⟨nofun, nofun, nofun⟩

/-! ## Inbound queues -/

/-- The law of the inbound queues looks at the state and the serving port of ACTIVE channels only. -/
theorem State.InboundSound.congr (hs : s.InboundSound) (hq : ∀ q, t.inbound q = s.inbound q)
    (hc : ∀ c, (s.chan c).state = .active → (t.chan c).state = .active ∧ (t.chan c).serving = (s.chan c).serving) :
    t.InboundSound := by
  intro q
  rw [hq]
  refine ⟨(hs q).1, fun x hx => ?_⟩
  obtain ⟨ha, hserving⟩ := (hs q).2 x hx
  obtain ⟨hta, htserving⟩ := hc x.channel ha
  exact ⟨hta, htserving.trans hserving⟩

theorem mem_setInbound {q o : Service} {l : List Delivered} {x : Delivered} (h : x ∈ (s.setInbound q l).inbound o) :
    (q = o ∧ x ∈ l) ∨ x ∈ s.inbound o := by
  rw [inbound_setInbound] at h
  split at h
  · exact .inl ⟨‹_›, h⟩
  · exact .inr h

/-- What becomes of the cells of the two queues in an adoption (R176). -/
theorem mem_adoptAll {chosen : List (Fin 48)} {p q : Service} {x : Delivered}
    (h : x ∈ (s.adoptAll chosen p).state.inbound q) :
    x ∈ s.inbound q ∧ (q = p ∨ x.channel ∉ chosen) ∨ (q = p ∧ x ∈ s.inbound p.other ∧ x.channel ∈ chosen) := by
  obtain ⟨hp, hother⟩ := adoptAll_inbound s chosen p
  by_cases hq : q = p
  · subst hq
    rw [hp] at h
    rcases List.mem_append.1 h with h | h
    · exact .inl ⟨h, .inl rfl⟩
    · obtain ⟨hx, hc⟩ := List.mem_filter.1 (List.mem_of_mem_take h)
      exact .inr ⟨rfl, hx, by simpa using hc⟩
  · obtain rfl : q = p.other := by cases p <;> cases q <;> simp_all [Service.other]
    rw [hother] at h
    obtain ⟨hx, hc⟩ := List.mem_filter.1 h
    exact .inl ⟨hx, .inr (by simpa using hc)⟩

theorem adoptAll_inboundSound (hs : s.InboundSound) {chosen : List (Fin 48)} (hn : chosen.Nodup) (p : Service) :
    (s.adoptAll chosen p).state.InboundSound := by
  obtain ⟨hp, hother⟩ := adoptAll_inbound s chosen p
  intro q
  constructor
  · by_cases hq : q = p
    · subst hq
      have := (hs q).1
      rw [hp, List.length_append, List.length_take]
      omega
    · obtain rfl : q = p.other := by cases p <;> cases q <;> simp_all [Service.other]
      rw [hother]
      exact (List.length_filter_le _ _).trans (hs p.other).1
  · intro x hx
    rw [adoptAll_chan s chosen hn]
    rcases mem_adoptAll hx with ⟨hx, hq⟩ | ⟨rfl, hx, hc⟩
    · obtain ⟨ha, hserving⟩ := (hs q).2 x hx
      split
      · rename_i hc
        exact ⟨ha, congrArg some (hq.resolve_right (not_not.2 hc)).symm⟩
      · exact ⟨ha, hserving⟩
    · rw [if_pos hc]
      exact ⟨((hs _).2 x hx).1, rfl⟩

theorem State.Acts.inboundSound (h : s.Acts t) (hs : s.InboundSound) : t.InboundSound := by
  induction h with
  | same h => exact hs.congr h.inbound fun c ha => by rw [h.chan]; exact ⟨ha, rfl⟩
  | trans _ _ ih ik => exact ik (ih hs)
  | link s p l => cases p <;> exact hs
  | stray => exact hs
  | log => exact hs
  | oneEvent _ _ ih ik => exact ik (ih hs)
  | @record s c x m =>
    refine hs.congr (fun _ => rfl) fun d ha => ?_
    rw [chan_setChan]
    split
    · rename_i hd
      subst hd
      exact m.keeps_active ha
    · exact ⟨ha, rfl⟩
  | @deliver s q x ha hq hroom =>
    intro o
    refine ⟨?_, fun y hy => ?_⟩
    · rw [inbound_setInbound]
      split
      · rw [List.length_append]
        exact hroom
      · exact (hs o).1
    · rw [setInbound_chan]
      rcases mem_setInbound hy with ⟨rfl, hnew⟩ | hold
      · rcases List.mem_append.1 hnew with hnew | hnew
        · exact (hs q).2 y hnew
        · obtain rfl := List.mem_singleton.1 hnew
          exact ⟨ha, hq⟩
      · exact (hs o).2 y hold
  | take s q =>
    intro o
    refine ⟨?_, fun y hy => ?_⟩
    · rw [inbound_setInbound]
      split
      · exact (List.length_tail ▸ Nat.sub_le _ _).trans (hs q).1
      · exact (hs o).1
    · rw [setInbound_chan]
      rcases mem_setInbound hy with ⟨rfl, hnew⟩ | hold
      · exact (hs q).2 y (List.mem_of_mem_tail hnew)
      · exact (hs o).2 y hold
  | close s c x =>
    intro q
    refine ⟨(removeInbound_length s c q).trans (hs q).1, fun y hy => ?_⟩
    obtain ⟨hy, hne⟩ := mem_removeInbound.1 hy
    obtain ⟨ha, hserving⟩ := (hs q).2 y hy
    have hchannel : c ≠ y.channel := fun he => hne (he ▸ hserving) he.symm
    rw [chan_setChan_ne _ _ hchannel, removeInbound_chan]
    exact ⟨ha, hserving⟩
  | adopt s chosen p hn => exact adoptAll_inboundSound hs hn p

theorem tick_serving (r : Channel) (kind : TickKind) : (r.tick kind).serving = r.serving := by cases kind <;> rfl

theorem State.Evolves.inboundSound (h : s.Evolves keys t) (hs : s.InboundSound) : t.InboundSound := by
  induction h with
  | acts h => exact h.inboundSound hs
  | trans _ _ ih ik => exact ik (ih hs)
  | part h => exact hs.congr h.inbound fun c ha => by rw [h.chan]; exact ⟨ha, rfl⟩
  | master => exact hs
  | tick s kind =>
    refine (carryOut_acts (s.advance kind) _).inboundSound (hs.congr (advance_inbound s kind) fun c ha => ?_)
    rw [advance_chan, tick_state, tick_serving]
    exact ⟨ha, rfl⟩
  | restart h =>
    intro q
    rw [h.inbound]
    exact ⟨Nat.zero_le _, nofun⟩

theorem State.Acts.epochsNonzero (h : s.Acts t) (hs : ∀ c, (s.chan c).EpochsNonzero) (c : Fin 48) :
    (t.chan c).EpochsNonzero :=
  h.record_keep epochsNonzero_law (fun _ _ _ _ => trivial) (fun _ _ _ => trivial) trivial c (hs c)

theorem State.Acts.cellsInRange (h : s.Acts t) (he : ∀ c, (s.chan c).EpochsNonzero) (hs : s.CellsInRange) :
    t.CellsInRange := by
  induction h with
  | same h => exact fun q x hx => hs q x (h.inbound q ▸ hx)
  | trans h _ ih ik => exact ik (h.epochsNonzero he) (ih he hs)
  | link s p l => cases p <;> exact hs
  | stray => exact hs
  | log => exact hs
  | oneEvent h _ ih ik => exact ik (h.epochsNonzero he) (ih he hs)
  | record => exact hs
  | @deliver s q x ha hq hroom hepoch hx =>
    intro o y hy
    rcases mem_setInbound hy with ⟨rfl, hnew⟩ | hold
    · rcases List.mem_append.1 hnew with hnew | hnew
      · exact hs q y hnew
      · obtain rfl := List.mem_singleton.1 hnew
        refine ⟨?_, hx⟩
        rcases hepoch with ⟨e, hcur, heq⟩ | ⟨p, hprev, heq⟩ <;> rw [heq]
        · exact (he _).current e hcur
        · exact (he _).previous p hprev
    · exact hs o y hold
  | take s q =>
    intro o y hy
    rcases mem_setInbound hy with ⟨rfl, hnew⟩ | hold
    · exact hs q y (List.mem_of_mem_tail hnew)
    · exact hs o y hold
  | close s c x => exact fun q y hy => hs q y (mem_removeInbound.1 hy).1
  | adopt s chosen p =>
    intro q x hx
    rcases mem_adoptAll hx with ⟨hx, -⟩ | ⟨-, hx, -⟩
    · exact hs q x hx
    · exact hs _ x hx

theorem State.Evolves.cellsInRange (h : s.Evolves keys t) (he : ∀ c, (s.chan c).EpochsNonzero) (hs : s.CellsInRange) :
    t.CellsInRange := by
  induction h with
  | acts h => exact h.cellsInRange he hs
  | trans h _ ih ik =>
    exact ik (fun c => h.record_keep_always epochsNonzero_law (fun r kind h => h.tick kind) c (he c)) (ih he hs)
  | part h => exact fun q x hx => hs q x (h.inbound q ▸ hx)
  | master => exact hs
  | tick s kind =>
    refine (carryOut_acts (s.advance kind) _).cellsInRange (fun c => ?_) fun q x hx => hs q x (advance_inbound s kind q ▸ hx)
    rw [advance_chan]
    exact (he c).tick kind
  | restart h => exact fun q x hx => by simp [h.inbound] at hx

/-- Settles O54: a cell is delivered to the port that serves its ACTIVE channel, under an entry of the record, and an
adoption moves it with its channel. -/
theorem inboundQueuesStaySound : Obligations.InboundQueuesStaySound := by
  intro s t h
  obtain ⟨keys, h⟩ := step_evolves h
  exact ⟨h.inboundSound, fun he hs => h.cellsInRange (fun c => (he c).nonzero) hs⟩

/-! ## Records whose parts fit -/

theorem State.RecordsSound.congr (hs : s.RecordsSound) (hc : ∀ c, t.chan c = s.chan c) (hm : t.masters = s.masters) :
    t.RecordsSound := by
  refine ⟨fun c => hc c ▸ hs.records c, fun c hopen => ?_⟩
  rw [hc] at hopen ⊢
  obtain ⟨m, hmaster, hloaded⟩ := hs.binding c hopen
  exact ⟨m, hmaster, hm ▸ hloaded⟩

theorem State.RecordsSound.setChan (hs : s.RecordsSound) {c : Fin 48} {x : Channel} (hx : x.Fits)
    (hbound : x.state ≠ .closed → ∃ m : Fin 4, x.master = some m ∧ s.masters[m] ≠ .empty) :
    (s.setChan c x).RecordsSound := by
  constructor
  · intro d
    rw [chan_setChan]
    split
    · exact hx
    · exact hs.records d
  · intro d hopen
    rw [chan_setChan] at hopen ⊢
    split at hopen
    · rename_i hd
      rw [if_pos hd]
      exact hbound hopen
    · rename_i hd
      rw [if_neg hd]
      exact hs.binding d hopen

theorem State.Acts.recordsSound (h : s.Acts t) (hp : s.ParamsSound) (hs : s.RecordsSound) : t.RecordsSound := by
  induction h with
  | same h => exact hs.congr h.chan h.masters
  | trans h _ ih ik => exact ik (h.params hp) (ih hp hs)
  | link s p l => cases p <;> exact hs.congr (fun _ => rfl) rfl
  | stray => exact hs.congr (fun _ => rfl) rfl
  | log => exact hs.congr (fun _ => rfl) rfl
  | @oneEvent s t u h _ ih ik =>
    have hu := ik ((SameBlocks.inEvent t _).params (h.params hp) (h.stray_le hp.stray))
      ((ih hp hs).congr (fun _ => rfl) rfl)
    exact hu.congr (fun _ => rfl) rfl
  | record m =>
    refine hs.setChan (m.fits hs hp) fun hx => ?_
    rcases m.bound hx with ⟨hopen, hmaster⟩ | hnew
    · exact hmaster ▸ hs.binding _ hopen
    · exact hnew
  | @deliver s q => cases q <;> exact hs.congr (fun _ => rfl) rfl
  | take s q => cases q <;> exact hs.congr (fun _ => rfl) rfl
  | close s c x hx =>
    have hremove : (s.removeInbound c).RecordsSound :=
      hs.congr (removeInbound_chan s c) (removeInbound_blocks s c).masters
    rcases hx with rfl | ⟨hopen, rfl⟩
    · exact hremove.setChan closedValues_fits fun h => absurd rfl h
    · refine hremove.setChan ((hs.records c).closing hopen) fun _ => ?_
      rw [(removeInbound_blocks s c).masters]
      exact hs.binding c hopen
  | adopt s chosen p hn hopen =>
    have hmasters := (State.Acts.adopt s chosen p hn hopen).blocks.masters
    constructor
    · intro c
      rw [adoptAll_chan s chosen hn]
      split
      · exact (hs.records c).adopted (hopen c ‹_›) _ p
      · exact hs.records c
    · intro c hc
      rw [hmasters]
      rw [adoptAll_chan s chosen hn] at hc ⊢
      split at hc
      · rename_i hmem
        rw [if_pos hmem]
        exact hs.binding c hc
      · rename_i hmem
        rw [if_neg hmem]
        exact hs.binding c hc

theorem tick_master (r : Channel) (kind : TickKind) : (r.tick kind).master = r.master := by cases kind <;> rfl

theorem advance_recordsSound (hs : s.RecordsSound) (kind : TickKind) : (s.advance kind).RecordsSound := by
  refine ⟨fun c => advance_chan s kind c ▸ (hs.records c).tick kind, fun c hopen => ?_⟩
  rw [advance_chan, tick_state] at hopen
  rw [advance_chan, tick_master, advance_masters]
  exact hs.binding c hopen

theorem State.Evolves.recordsSound (h : s.Evolves keys t) (hp : s.ParamsSound) (hs : s.RecordsSound) :
    t.RecordsSound := by
  induction h with
  | acts h => exact h.recordsSound hp hs
  | trans h _ ih ik => exact ik (h.params hp) (ih hp hs)
  | part h => exact hs.congr h.chan h.masters
  | @master s _ m v hv =>
    refine ⟨hs.records, fun c hopen => ?_⟩
    obtain ⟨n, hmaster, hloaded⟩ := hs.binding c hopen
    refine ⟨n, hmaster, ?_⟩
    by_cases hmn : m = n
    · subst hmn
      have hne : v ≠ .empty := hv.resolve_right fun hno => hno c hopen hmaster
      simpa [State.setMaster] using hne
    · have : m.val ≠ n.val := fun he => hmn (Fin.ext he)
      simpa [State.setMaster, Vector.getElem_set, this] using hloaded
  | tick s kind =>
    exact (carryOut_acts (s.advance kind) _).recordsSound (advance_params hp kind) (advance_recordsSound hs kind)
  | restart h =>
    refine ⟨fun c => h.chan c ▸ closedValues_fits, fun c hopen => ?_⟩
    rw [h.chan] at hopen
    exact absurd rfl hopen

/-! ## No step stops -/

/-- The cell that a CONTROL slot is to send can be formed, and so the load event answers a next state (R59, R127). -/
theorem loadEvent_isSome (hs : s.RecordsSound) (k : SlotKind) : (s.loadEvent k).isSome := by
  cases k with
  | unused => rfl
  | data => rfl
  | control =>
    unfold State.loadEvent State.loadControl
    dsimp only
    split
    · rfl
    · rename_i c _
      split
      · rfl
      · rename_i x rest hcells
        rw [Option.isSome_map]
        exact (hs.records c).formControl_isSome (hcells ▸ List.mem_cons_self) c

theorem takeDueLoad_isSome (hs : s.RecordsSound) : s.takeDueLoad.isSome := by
  unfold State.takeDueLoad
  split
  · exact loadEvent_isSome (s := s.keep _) (hs.congr (fun _ => rfl) rfl) _
  · rfl

theorem beginSlot_isSome (hs : s.RecordsSound) (load : LoadTime) : (s.beginSlot load).isSome := by
  cases load with
  | now =>
    refine takeDueLoad_isSome (hs.congr (fun c => ?_) ?_)
    all_goals rcases openSlot_cases s with ⟨-, e⟩ | ⟨k, -, e⟩ <;> rw [e] <;> rfl
  | later => rfl

theorem execSlotBoundary_answers (hp : s.ParamsSound) (hs : s.RecordsSound) (part : SlotPart) :
    ∃ t, execSlotBoundary s part = .next t := by
  obtain ⟨u, hu⟩ := Option.isSome_iff_exists.1 (takeDueLoad_isSome hs)
  have hus : u.RecordsSound := (takeDueLoad_evolves (keys := false) hu).recordsSound hp hs
  unfold execSlotBoundary
  split
  · exact ⟨s, rfl⟩
  · split
    · rename_i load
      obtain ⟨t, ht⟩ := Option.isSome_iff_exists.1
        (beginSlot_isSome (s := u.nextSlot) (hus.congr (fun _ => rfl) rfl) load)
      exact ⟨t, outcomeOf_eq_next.2 (by rw [hu, Option.bind_some, ht])⟩
    · exact ⟨u, outcomeOf_eq_next.2 hu⟩

theorem execFrameMarker_answers (hp : s.ParamsSound) (hs : s.RecordsSound) (order : List TickWork) (load : LoadTime) :
    ∃ t, execFrameMarker order s load = .next t := by
  obtain ⟨u, hu⟩ := Option.isSome_iff_exists.1 (takeDueLoad_isSome hs)
  have hmarked : s.Evolves false (u.marker order) := (takeDueLoad_evolves hu).trans (marker_evolves u order)
  obtain ⟨t, ht⟩ := Option.isSome_iff_exists.1 (beginSlot_isSome (hmarked.recordsSound hp hs) load)
  unfold execFrameMarker
  split
  · exact ⟨s, rfl⟩
  · exact ⟨t, outcomeOf_eq_next.2 (by rw [hu, Option.bind_some, ht])⟩

/-- The slot events are the only ones that can stop; every other command and event answers a next state at once. -/
theorem exec_answers (hp : s.ParamsSound) (hs : s.RecordsSound) (i : Instr) : ∃ t, exec i s = .next t := by
  cases i with
  | slotBoundary part => exact execSlotBoundary_answers hp hs part
  | frameMarker order load => exact execFrameMarker_answers hp hs order load
  | _ => exact ⟨_, rfl⟩

/-- Settles O53: each change that a step is made of keeps the records sound, and a sound record forms every cell of its
pending list. -/
theorem recordsStaySoundAndNoStepStops : Obligations.RecordsStaySoundAndNoStepStops := by
  intro s hs hp
  have hstep : ∃ t, step s = .next t := by
    rcases step_cases s with ⟨u, hu, -⟩ | ⟨i, u, hu, ha⟩
    · exact ⟨u, hu⟩
    · exact hu ▸ exec_answers (ha.params hp) (ha.recordsSound hp hs) i
  obtain ⟨t, ht⟩ := hstep
  obtain ⟨keys, h⟩ := step_evolves ht
  exact ⟨t, ht, h.recordsSound hp hs⟩

end Sys2Proof.Machine
end

section
/-! PROOFS. Epochs and ranges of the records through every step (R1, R6, R7, R18, R72, R74, R97, R98, R138). A tick counts a
timer down to 0, and the expiry that it brings stops the timer or sets it again. -/

namespace Sys2Proof.Machine

variable {keys : Bool} {s t : State}

/-! ## Epochs and ranges, a timer at 0 allowed -/

/-- The records are sound and the parameters in range: what the laws of epochs rest on. -/
abbrev State.SoundParts (s : State) : Prop := s.RecordsSound ∧ s.ParamsSound

theorem inEvent_params (h : s.ParamsSound) (n : Nat) : (s.inEvent n).ParamsSound :=
  (State.SameBlocks.inEvent s n).params h h.stray

theorem inEvent_soundParts (h : s.SoundParts) (n : Nat) : (s.inEvent n).SoundParts :=
  ⟨h.1.congr (fun _ => rfl) rfl, inEvent_params h.2 n⟩

theorem epochsFit_law : RecordLaw State.SoundParts Channel.EpochsFit where
  move _ c _ hs m h := m.epochsFit (hs.1.records c) h
  adopted _ _ _ h := ⟨h.base, h.current, h.pending, h.previous⟩
  closing _ _ := ⟨nofun, nofun, nofun, nofun⟩
  closed := ⟨nofun, nofun, nofun, nofun⟩

theorem countsInRange_law : RecordLaw State.ParamsSound Channel.CountsInRange where
  move _ _ _ hs m h := m.countsInRange hs h
  adopted _ n p h := h.adopted n p
  closing _ h :=
    { h with
      outbound := Nat.zero_le _, lengths := nofun, age := nofun, holdOff := Nat.zero_le _, offerTimer := nofun
      resyncTimer := nofun, cutover := nofun, syncLoss := Nat.zero_le _, retries := ⟨Nat.zero_le _, Nat.zero_le _⟩
      quality := { h.quality with } }
  closed := closedValues_countsInRange

theorem State.Evolves.epochsFit (h : s.Evolves keys t) (hs : s.SoundParts) (c : Fin 48) (hc : (s.chan c).EpochsFit) :
    (t.chan c).EpochsFit :=
  h.record_keep epochsFit_law (fun _ kind h => h.tick kind)
    (fun _ _ _ h hs => ⟨h.recordsSound hs.2 hs.1, h.params hs.2⟩) (fun _ n hs => inEvent_soundParts hs n)
    (fun _ kind hs => ⟨advance_recordsSound hs.1 kind, advance_params hs.2 kind⟩) hs c hc

theorem State.Evolves.countsInRange (h : s.Evolves keys t) (hs : s.ParamsSound) (c : Fin 48)
    (hc : (s.chan c).CountsInRange) : (t.chan c).CountsInRange :=
  h.record_keep countsInRange_law (fun _ kind h => h.tick kind) (fun _ _ _ h hs => h.params hs)
    (fun _ n hs => inEvent_params hs n) (fun _ kind hs => advance_params hs kind) hs c hc

/-! ## Timers that stand at 0 -/

theorem not_offerSpent_law : RecordLaw State.ParamsSound fun r => ¬ r.OfferSpent where
  move _ _ _ hs m h := mt (m.spendsNoTimer hs).offer h
  adopted _ _ _ h := h
  closing _ _ := nofun
  closed := nofun

theorem not_resyncSpent_law : RecordLaw State.ParamsSound fun r => ¬ r.ResyncSpent where
  move _ _ _ hs m h := mt (m.spendsNoTimer hs).resync h
  adopted _ _ _ h := h
  closing _ _ := nofun
  closed := nofun

theorem not_cutoverSpent_law : RecordLaw State.ParamsSound fun r => ¬ r.CutoverSpent where
  move _ _ _ hs m h := mt (m.spendsNoTimer hs).cutover h
  adopted _ _ _ h := h
  closing _ _ := nofun
  closed := nofun

/-- A law of a record on the parameters alone is kept by every operation on records. -/
theorem State.Acts.keep_of_params {P : Channel → Prop} (law : RecordLaw State.ParamsSound P) (h : s.Acts t)
    (hs : s.ParamsSound) (c : Fin 48) (hP : P (s.chan c)) : P (t.chan c) :=
  h.record_keep law (fun _ _ h hs => h.params hs) (fun _ n hs => inEvent_params hs n) hs c hP

/-- The expiry of the offer timer stops it (R107, R108). -/
theorem offerExpired_not_spent (s : State) (c : Fin 48) : ¬ ((s.offerExpired c).chan c).OfferSpent := by
  unfold State.offerExpired
  split
  · split
    · obtain ⟨_, e⟩ := requeueOffer_eq (s.chan c)
      rw [chan_modChan_same, e]
      nofun
    · rw [State.failRenewal, chan_modChan_same]
      nofun
  · exact ‹_›

/-- The expiry of the resync timer stops it (R76). -/
theorem resyncExpired_not_spent (hp : s.ParamsSound) (c : Fin 48) : ¬ ((s.resyncExpired c).chan c).ResyncSpent := by
  unfold State.resyncExpired
  split
  · rename_i h
    split
    · obtain ⟨_, e⟩ := requeueResync_eq (s.chan c)
      rw [chan_modChan_same, e]
      nofun
    · have hend : s.Acts (s.modChan c Channel.endExchange) := modChan_acts (.exchangeEnded (by simp [h]))
      refine ((raiseFor_acts _ c _ _).trans (trigger_acts _ c _)).keep_of_params not_resyncSpent_law (hend.params hp) c ?_
      rw [chan_modChan_same]
      nofun
  · exact ‹_›

/-- The expiry of the cutover timer removes the previous entry (R115). -/
theorem cutoverExpired_not_spent (hp : s.ParamsSound) (c : Fin 48) : ¬ ((s.cutoverExpired c).chan c).CutoverSpent := by
  unfold State.cutoverExpired
  split
  · rename_i p h
    split
    · have hend : s.Acts (s.modChan c Channel.endCutover) := modChan_acts (.cutOver (by simp [h]))
      refine (startIfDue_acts _ c).keep_of_params not_cutoverSpent_law (hend.params hp) c ?_
      rw [chan_modChan_same]
      rintro ⟨q, hq, -⟩
      cases hq
    · rename_i h0
      rintro ⟨q, hq, hq0⟩
      obtain rfl := Option.some.inj (h.symm.trans hq)
      exact h0 hq0
  · rename_i h
    rintro ⟨q, hq, -⟩
    rw [h] at hq
    cases hq

/-- A beat tick leaves the three timers. -/
theorem NoTimerSpent.beatTick {r : Channel} (h : r.NoTimerSpent) : (r.tick .beat).NoTimerSpent :=
  ⟨h.offer, h.resync, h.cutover⟩

/-- A timer that is not spent as the works of a tick begin is not spent after them, and one that is spent expires among
them. -/
theorem carryOut_not_spent {P : Channel → Prop} (law : RecordLaw State.ParamsSound fun r => ¬ P r) {c : Fin 48}
    {w : TickWork} {ws : List TickWork} (hexpires : ∀ s : State, s.ParamsSound → ¬ P ((s.work w).chan c))
    (hp : s.ParamsSound) (hw : P (s.chan c) → w ∈ ws) : ¬ P ((s.carryOut ws).chan c) := by
  by_cases hspent : P (s.chan c)
  · refine (carryOut_reaches (P := State.ParamsSound) (Q := fun t => t.ParamsSound ∧ ¬ P (t.chan c)) (hw hspent)
      (fun t ht => ⟨(work_acts t w).params ht, hexpires t ht⟩) (fun v _ t ht => .inl ((work_acts t v).params ht))
      (fun v _ t ht => ⟨(work_acts t v).params ht.1, (work_acts t v).keep_of_params law ht.1 c ht.2⟩) s hp).2
  · exact (carryOut_acts s ws).keep_of_params law hp c hspent

theorem cutoverDue_iff (r : Channel) : r.cutoverDue = true ↔ r.CutoverSpent := by
  unfold Channel.cutoverDue
  cases h : r.previous <;> simp [h, Channel.CutoverSpent]

theorem tick_noTimerSpent (hp : s.ParamsSound) (kind : TickKind) (order : List TickWork) (c : Fin 48)
    (h : (s.chan c).NoTimerSpent) : ((s.tick kind order).chan c).NoTimerSpent := by
  have hmember (w : TickWork) (hw : w ∈ (s.advance kind).works kind s.periodDue) :
      w ∈ inOrder order ((s.advance kind).works kind s.periodDue) := mem_inOrder.2 hw
  have hmarker (hspent : ¬ ((s.advance kind).chan c).NoTimerSpent) : kind = .marker := by
    cases kind with
    | marker => rfl
    | beat =>
      rw [advance_chan] at hspent
      exact absurd (NoTimerSpent.beatTick h) hspent
  rw [noTimerSpent_iff] at hmarker
  refine (noTimerSpent_iff _).2 ⟨?_, ?_, ?_⟩
  · refine carryOut_not_spent not_offerSpent_law (w := .offerExpiry c) (fun t _ => offerExpired_not_spent t c)
      (advance_params hp kind) fun hspent => hmember _ ?_
    exact (mem_works _ _ _ _).2 ⟨hmarker fun hno => hno.1 hspent, hspent⟩
  · refine carryOut_not_spent not_resyncSpent_law (w := .resyncExpiry c) (fun t ht => resyncExpired_not_spent ht c)
      (advance_params hp kind) fun hspent => hmember _ ?_
    exact (mem_works _ _ _ _).2 ⟨hmarker fun hno => hno.2.1 hspent, hspent⟩
  · refine carryOut_not_spent not_cutoverSpent_law (w := .cutoverExpiry c) (fun t ht => cutoverExpired_not_spent ht c)
      (advance_params hp kind) fun hspent => hmember _ ?_
    exact (mem_works _ _ _ _).2 ⟨hmarker fun hno => hno.2.2 hspent, (cutoverDue_iff _).2 hspent⟩

theorem State.Acts.noTimerSpent (h : s.Acts t) (hp : s.ParamsSound) (c : Fin 48) (hc : (s.chan c).NoTimerSpent) :
    (t.chan c).NoTimerSpent := by
  obtain ⟨ho, hr, hcut⟩ := (noTimerSpent_iff _).1 hc
  exact (noTimerSpent_iff _).2 ⟨h.keep_of_params not_offerSpent_law hp c ho, h.keep_of_params not_resyncSpent_law hp c hr,
    h.keep_of_params not_cutoverSpent_law hp c hcut⟩

theorem State.Evolves.noTimerSpent (h : s.Evolves keys t) (hp : s.ParamsSound) (c : Fin 48)
    (hc : (s.chan c).NoTimerSpent) : (t.chan c).NoTimerSpent := by
  induction h with
  | acts h => exact h.noTimerSpent hp c hc
  | trans h _ ih ik => exact ik (h.params hp) (ih hp hc)
  | part h => exact h.chan c ▸ hc
  | master => exact hc
  | tick s kind order => exact tick_noTimerSpent hp kind order c hc
  | restart h => exact h.chan c ▸ closedValues_noTimerSpent

/-- Settles O58: each change keeps epochs and counts, and no timer stands at 0 after the works of a tick. -/
theorem epochsAndFieldsStayInRange : Obligations.EpochsAndFieldsStayInRange := by
  intro s t hs hp hrecords h c
  obtain ⟨keys, h⟩ := step_evolves h
  obtain ⟨hepochs, hrange⟩ := hrecords c
  obtain ⟨hcounts, htimers⟩ := (inRange_iff _).1 hrange
  exact ⟨h.epochsFit ⟨hs, hp⟩ c hepochs, (inRange_iff _).2 ⟨h.countsInRange hp c hcounts, h.noTimerSpent hp c htimers⟩⟩

end Sys2Proof.Machine
end

section
/-! PROOFS. Command frames (R165, 10.10): a frame is read as the command it is the frame of. -/

namespace Sys2Proof

/-! ## Bytes and the numbers they spell -/

theorem ofBigEndian_cons (b : Byte) (rest : List Byte) :
    ofBigEndian (b :: rest) = b.toNat * 256 ^ rest.length + ofBigEndian rest := by
  simpa [ofBigEndian] using ofBigEndian_foldl rest b.toNat

theorem ofBigEndian_lt (bytes : List Byte) : ofBigEndian bytes < 256 ^ bytes.length := by
  induction bytes with
  | nil => decide
  | cons b rest ih =>
    rw [ofBigEndian_cons, List.length_cons, Nat.pow_succ]
    have := b.isLt
    nlinarith

/-- Writing the number that bytes spell gives the bytes. -/
theorem bigEndian_ofBigEndian (bytes : List Byte) : bigEndian bytes.length (ofBigEndian bytes) = bytes := by
  suffices h : ∀ (bytes : List Byte) (n : Nat), bigEndian bytes.length (n * 256 ^ bytes.length + ofBigEndian bytes) = bytes by
    simpa using h bytes 0
  intro bytes
  induction bytes with
  | nil => exact fun _ => rfl
  | cons b rest ih =>
    intro n
    have hlt := ofBigEndian_lt rest
    have hsum : n * 256 ^ (rest.length + 1) + (b.toNat * 256 ^ rest.length + ofBigEndian rest) =
        (n * 256 + b.toNat) * 256 ^ rest.length + ofBigEndian rest := by ring
    rw [ofBigEndian_cons, List.length_cons, hsum, bigEndian, ih]
    congr 1
    rw [Nat.add_comm, Nat.add_mul_div_right _ _ (Nat.pow_pos (by decide)), Nat.div_eq_of_lt hlt, Nat.zero_add]
    exact BitVec.eq_of_toNat_eq (by rw [BitVec.toNat_ofNat]; have := b.isLt; omega)

theorem bigEndian_word16 (hi lo : Byte) : bigEndian 2 (word16 hi lo).toNat = [hi, lo] := by
  have hlt : ofBigEndian [hi, lo] < 2 ^ 16 := by simpa using ofBigEndian_lt [hi, lo]
  rw [word16, BitVec.toNat_ofNat, Nat.mod_eq_of_lt hlt]
  exact bigEndian_ofBigEndian [hi, lo]

theorem bigEndian_word32 (b3 b2 b1 b0 : Byte) : bigEndian 4 (word32 b3 b2 b1 b0).toNat = [b3, b2, b1, b0] := by
  have hlt : ofBigEndian [b3, b2, b1, b0] < 2 ^ 32 := by simpa using ofBigEndian_lt [b3, b2, b1, b0]
  rw [word32, BitVec.toNat_ofNat, Nat.mod_eq_of_lt hlt]
  exact bigEndian_ofBigEndian [b3, b2, b1, b0]

theorem bigEndian_key {key : List Byte} (h : key.length = 16) :
    bigEndian 16 (BitVec.ofNat 128 (ofBigEndian key)).toNat = key := by
  have hlt : ofBigEndian key < 2 ^ 128 := by simpa [h] using ofBigEndian_lt key
  rw [BitVec.toNat_ofNat, Nat.mod_eq_of_lt hlt, ← h]
  exact bigEndian_ofBigEndian key

/-- A master key is read back from its 16 bytes (10.10). -/
theorem key_bigEndian (key : BitVec 128) : BitVec.ofNat 128 (ofBigEndian (bigEndian 16 key.toNat)) = key := by
  rw [ofBigEndian_bigEndian 16 key.toNat key.isLt, BitVec.ofNat_toNat, BitVec.setWidth_eq]

/-! ## Reading a frame -/

theorem commandOfFrame_commandFrame (p : Port) (code tag : Byte) {params : List Byte} (h : params.length ≤ 64) :
    commandOfFrame p (commandFrame code tag params) = commandOfParams p tag code.toNat params := by
  have hlen : (BitVec.ofNat 8 params.length).toNat = params.length := by
    rw [BitVec.toNat_ofNat]
    omega
  simp [commandOfFrame, commandFrame, hlen]

/-- R165's four conditions on the frame of a code with at most 64 parameter bytes. -/
theorem frameWellFormed_commandFrame {code tag : Byte} {params : List Byte} {lo hi : Nat} (h : params.length ≤ 64)
    (hlengths : paramLengths code.toNat = some (lo, hi)) (hparams : lo ≤ params.length ∧ params.length ≤ hi) :
    frameWellFormed (commandFrame code tag params) = true := by
  have hlen : (BitVec.ofNat 8 params.length).toNat = params.length := by
    rw [BitVec.toNat_ofNat]
    omega
  simp [frameWellFormed, commandFrame, hlen, hlengths, h, hparams]

/-- A well-formed frame is a command frame, its parameters of a length that the command index gives its code. -/
theorem eq_commandFrame_of_wellFormed {bytes : List Byte} (h : frameWellFormed bytes = true) :
    ∃ code tag params lo hi, bytes = commandFrame code tag params ∧ params.length ≤ 64 ∧
      paramLengths code.toNat = some (lo, hi) ∧ lo ≤ params.length ∧ params.length ≤ hi := by
  unfold frameWellFormed at h
  split at h
  · rename_i code tag len params
    simp only [Bool.and_eq_true, decide_eq_true_eq] at h
    obtain ⟨⟨h64, hlen⟩, hlengths⟩ := h
    split at hlengths
    · rename_i lo hi hcode
      simp only [Bool.and_eq_true, decide_eq_true_eq] at hlengths
      refine ⟨code, tag, params, lo, hi, ?_, hlen ▸ h64, hcode, hlengths⟩
      rw [commandFrame, hlen, BitVec.ofNat_toNat, BitVec.setWidth_eq]
    · cases hlengths
  · cases h

/-- A frame whose parameters spell a command, and are of a length of its code's, is well formed and read as the command. -/
theorem reads_back {p q : Port} {code tag : Byte} {params bytes : List Byte} {lo hi : Nat} {i : Instr}
    (h : some (p, commandFrame code tag params) = some (q, bytes)) (h64 : params.length ≤ 64)
    (hlengths : paramLengths code.toNat = some (lo, hi)) (hparams : lo ≤ params.length ∧ params.length ≤ hi)
    (hi : commandOfParams p tag code.toNat params = some i) :
    frameWellFormed bytes = true ∧ commandOfFrame q bytes = some i := by
  obtain ⟨rfl, rfl⟩ := Prod.mk.inj (Option.some.inj h)
  exact ⟨frameWellFormed_commandFrame h64 hlengths hparams, (commandOfFrame_commandFrame p code tag h64).trans hi⟩

theorem commandOfParams_key (p : Port) (tag m : Byte) {key : List Byte} (h : key.length = 16) :
    commandOfParams p tag 0x30 (m :: key) = some (.loadMaster p tag m (BitVec.ofNat 128 (ofBigEndian key))) :=
  if_pos h

/-- Settles O3: each operand is written by its width in bytes and read back from them. -/
theorem commandFramesReadBack : Obligations.CommandFramesReadBack := by
  intro i q bytes hw h
  cases i with
  | openChannel p tag c shop m sp =>
    obtain ⟨_, _, _, _, hb, rfl⟩ := word32_bigEndian shop
    exact reads_back h (by simp) rfl (by simp) (by rw [hb]; rfl)
  | setChannel p tag c r a =>
    obtain ⟨_, _, _, _, hr, rfl⟩ := word32_bigEndian r
    obtain ⟨_, _, _, _, ha, rfl⟩ := word32_bigEndian a
    exact reads_back h (by simp) rfl (by simp) (by rw [hr, ha]; rfl)
  | send p tag c data =>
    have hdata : data.length ≤ 63 := of_decide_eq_true hw
    exact reads_back h (Nat.succ_le_succ hdata) rfl ⟨Nat.succ_pos _, Nat.succ_le_succ hdata⟩ (if_pos hdata)
  | setFrame p tag f b sl lo =>
    obtain ⟨_, _, hf, rfl⟩ := word16_bigEndian f
    obtain ⟨_, _, hb, rfl⟩ := word16_bigEndian b
    obtain ⟨_, _, hsl, rfl⟩ := word16_bigEndian sl
    obtain ⟨_, _, hlo, rfl⟩ := word16_bigEndian lo
    exact reads_back h (by simp) rfl (by simp) (by rw [hf, hb, hsl, hlo]; rfl)
  | setSync p tag j =>
    obtain ⟨_, _, hj, rfl⟩ := word16_bigEndian j
    exact reads_back h (by simp) rfl (by simp) (by rw [hj]; rfl)
  | loadMaster p tag m key =>
    exact reads_back h (by simp) rfl (by simp)
      ((commandOfParams_key p tag m (bigEndian_length 16 key.toNat)).trans (by rw [key_bigEndian]))
  | setRenewal p tag t =>
    obtain ⟨_, _, ht, rfl⟩ := word16_bigEndian t
    exact reads_back h (by simp) rfl (by simp) (by rw [ht]; rfl)
  | setQuality p tag period lo hi st si =>
    obtain ⟨_, _, hperiod, rfl⟩ := word16_bigEndian period
    obtain ⟨_, _, hlo, rfl⟩ := word16_bigEndian lo
    obtain ⟨_, _, hhi, rfl⟩ := word16_bigEndian hi
    obtain ⟨_, _, hsi, rfl⟩ := word16_bigEndian si
    exact reads_back h (by simp) rfl (by simp) (by rw [hperiod, hlo, hhi, hsi]; rfl)
  | setPresence p tag period =>
    obtain ⟨_, _, hperiod, rfl⟩ := word16_bigEndian period
    exact reads_back h (by simp) rfl (by simp) (by rw [hperiod]; rfl)
  | closeChannel | readChannel | assignSlot | readTrunk | readSlot | take | resume | eraseMaster | renew | readQuality
  | readFault | status | clearStartup | present | setAttention | adopt | reset =>
    exact reads_back h (Nat.le_of_ble_eq_true rfl) rfl ⟨Nat.le_of_ble_eq_true rfl, Nat.le_of_ble_eq_true rfl⟩ rfl
  | _ => cases h

/-! ## Every well-formed frame is a command's -/

/-- Parameters of a length that the command index gives the code are those of a well-formed command. -/
theorem exists_command (p : Port) {code tag : Byte} {params : List Byte} {lo hi : Nat}
    (h : paramLengths code.toNat = some (lo, hi)) (hlo : lo ≤ params.length) (hhi : params.length ≤ hi) :
    ∃ i : Instr, i.wellFormed = true ∧ frameOf i = some (p, commandFrame code tag params) := by
  have hcode {n : Nat} (hc : code.toNat = n) : BitVec.ofNat 8 n = code := by
    rw [← hc, BitVec.ofNat_toNat, BitVec.setWidth_eq]
  unfold paramLengths at h
  split at h
  case h_27 => cases h
  all_goals
    rename_i hc
    obtain ⟨rfl, rfl⟩ := Prod.mk.inj (Option.some.inj h)
    rw [← hcode hc]
  case h_4 =>
    match params, hlo with
    | c :: data, _ => exact ⟨.send p tag c data, decide_eq_true (Nat.le_of_succ_le_succ hhi), rfl⟩
  case h_13 =>
    match params, hlo, hhi with
    | m :: key, hlo, hhi =>
      have hkey : key.length = 16 := Nat.succ.inj (le_antisymm hhi hlo)
      exact ⟨.loadMaster p tag m (BitVec.ofNat 128 (ofBigEndian key)), rfl, by rw [frameOf, bigEndian_key hkey]; rfl⟩
  all_goals have hlen := le_antisymm hhi hlo
  case h_1 =>
    match params, hlen with
    | [c, s3, s2, s1, s0, m, sp], _ =>
      exact ⟨.openChannel p tag c (word32 s3 s2 s1 s0) m sp, rfl, by rw [frameOf, bigEndian_word32]; rfl⟩
  case h_2 => match params, hlen with | [c], _ => exact ⟨.closeChannel p tag c, rfl, rfl⟩
  case h_3 =>
    match params, hlen with
    | [c, r3, r2, r1, r0, a3, a2, a1, a0], _ =>
      exact ⟨.setChannel p tag c (word32 r3 r2 r1 r0) (word32 a3 a2 a1 a0), rfl,
        by rw [frameOf, bigEndian_word32, bigEndian_word32]; rfl⟩
  case h_5 => match params, hlen with | [c], _ => exact ⟨.readChannel p tag c, rfl, rfl⟩
  case h_6 => match params, hlen with | [n, k, c], _ => exact ⟨.assignSlot p tag n k c, rfl, rfl⟩
  case h_7 =>
    match params, hlen with
    | [f1, f0, b1, b0, s1, s0, l1, l0], _ =>
      exact ⟨.setFrame p tag (word16 f1 f0) (word16 b1 b0) (word16 s1 s0) (word16 l1 l0), rfl,
        by rw [frameOf, bigEndian_word16, bigEndian_word16, bigEndian_word16, bigEndian_word16]; rfl⟩
  case h_8 => match params, hlen with | [], _ => exact ⟨.readTrunk p tag, rfl, rfl⟩
  case h_9 => match params, hlen with | [n], _ => exact ⟨.readSlot p tag n, rfl, rfl⟩
  case h_10 => match params, hlen with | [], _ => exact ⟨.take p tag, rfl, rfl⟩
  case h_11 => match params, hlen with | [c], _ => exact ⟨.resume p tag c, rfl, rfl⟩
  case h_12 =>
    match params, hlen with
    | [j1, j0, t], _ => exact ⟨.setSync p tag (word16 j1 j0) t, rfl, by rw [frameOf, bigEndian_word16]; rfl⟩
  case h_14 => match params, hlen with | [m], _ => exact ⟨.eraseMaster p tag m, rfl, rfl⟩
  case h_15 => match params, hlen with | [c], _ => exact ⟨.renew p tag c, rfl, rfl⟩
  case h_16 =>
    match params, hlen with
    | [t1, t0, r, w], _ => exact ⟨.setRenewal p tag (word16 t1 t0) r w, rfl, by rw [frameOf, bigEndian_word16]; rfl⟩
  case h_17 => match params, hlen with | [c], _ => exact ⟨.readQuality p tag c, rfl, rfl⟩
  case h_18 =>
    match params, hlen with
    | [p1, p0, l1, l0, h1, h0, st, s1, s0], _ =>
      exact ⟨.setQuality p tag (word16 p1 p0) (word16 l1 l0) (word16 h1 h0) st (word16 s1 s0), rfl,
        by rw [frameOf, bigEndian_word16, bigEndian_word16, bigEndian_word16, bigEndian_word16]; rfl⟩
  case h_19 => match params, hlen with | [], _ => exact ⟨.readFault p tag, rfl, rfl⟩
  case h_20 => match params, hlen with | [], _ => exact ⟨.status p tag, rfl, rfl⟩
  case h_21 => match params, hlen with | [], _ => exact ⟨.clearStartup p tag, rfl, rfl⟩
  case h_22 => match params, hlen with | [], _ => exact ⟨.present p tag, rfl, rfl⟩
  case h_23 => match params, hlen with | [m], _ => exact ⟨.setAttention p tag m, rfl, rfl⟩
  case h_24 =>
    match params, hlen with
    | [q1, q0], _ => exact ⟨.setPresence p tag (word16 q1 q0), rfl, by rw [frameOf, bigEndian_word16]; rfl⟩
  case h_25 => match params, hlen with | [c], _ => exact ⟨.adopt p tag c, rfl, rfl⟩
  case h_26 => match params, hlen with | [], _ => exact ⟨.reset p tag, rfl, rfl⟩

/-- A command whose frame is well formed is well formed: a SEND's parameters are at most 64 bytes (10.10). -/
theorem wellFormed_of_frame {i : Instr} {p : Port} {bytes : List Byte} (h : frameOf i = some (p, bytes))
    (hw : frameWellFormed bytes = true) : i.wellFormed = true := by
  cases i with
  | send q tag c data =>
    obtain ⟨-, rfl⟩ := Prod.mk.inj (Option.some.inj h)
    simp only [frameWellFormed, commandFrame, Bool.and_eq_true, decide_eq_true_eq] at hw
    obtain ⟨⟨h64, hlen⟩, -⟩ := hw
    exact decide_eq_true (Nat.le_of_succ_le_succ (hlen.trans_le h64))
  | beat | frameMarker | periodEnd | phaseUnit => cases h
  | _ => rfl

/-- Settles O4: the command is the one that the frame's code and parameters spell, and by O3 the frame is read as any
command whose frame it is. -/
theorem wellFormedFramesAreCommands : Obligations.WellFormedFramesAreCommands := by
  intro p bytes h
  obtain ⟨code, tag, params, lo, hi, rfl, -, hlengths, hlo, hhi⟩ := eq_commandFrame_of_wellFormed h
  obtain ⟨i, hi, hframe⟩ := exists_command p (tag := tag) hlengths hlo hhi
  have hread := (commandFramesReadBack i p _ hi hframe).2
  refine ⟨i, hi, hframe, hread, fun j hj => ?_⟩
  have hj' := (commandFramesReadBack j p _ (wellFormed_of_frame hj h) hj).2
  exact Option.some.inj (hj'.symm.trans hread)

end Sys2Proof
end

section
/-! PROOFS. The block's step and the command unit: the front command, the log's turn, the round robin (R169), the order of
the judgement (R170 to R172), and the checks of the channel commands (R9). -/

namespace Sys2Proof.Machine

/-! ## The step -/

/-- Settles O1: it is the first arm of the step. -/
theorem stepRunsFrontCommand : Obligations.StepRunsFrontCommand := by
  intro s c rest h
  rw [step, h]

theorem step_of_idle {s : State} (h : s.pending = []) :
    step s = if s.logActs then .next s.logTurn
      else match s.passTurn.nextTaking with
        | some c => exec c s.passTurn
        | none => .next s.passTurn := by
  unfold step
  rw [h] <;> rfl

theorem logActs_iff {s : State} (hr : s.resetLine = false) :
    s.logActs = true ↔ s.log.waiting ≠ [] ∧ s.log.turns.head? ≠ some [] := by
  simp [State.logActs, hr]

theorem passTurn_eq {s : State} (hr : s.resetLine = false) :
    s.passTurn = if s.log.waiting = [] then s else { s with log := { s.log with turns := s.log.turns.tail } } := by
  simp [State.passTurn, hr]

/-- A turn that passes leaves the port links and the command unit. -/
theorem passTurn_keeps (s : State) :
    (∀ p, s.passTurn.link p = s.link p) ∧ s.passTurn.lastPort = s.lastPort ∧ s.passTurn.resetLine = s.resetLine ∧
      s.passTurn.halted = s.halted := by
  unfold State.passTurn
  split <;> exact ⟨fun _ => rfl, rfl, rfl, rfl⟩

/-- The port that R169 chooses: the first after the last one served whose queue is not empty. -/
theorem nextPort_of_first {s : State} {p : Port} (hp : (s.link p).queue ≠ [])
    (h : match s.lastPort with
      | .a => p = .b ∨ (p = .k ∧ s.portB.queue = []) ∨ (p = .a ∧ s.portB.queue = [] ∧ s.portK.queue = [])
      | .b => p = .k ∨ (p = .a ∧ s.portK.queue = []) ∨ (p = .b ∧ s.portK.queue = [] ∧ s.portA.queue = [])
      | .k => p = .a ∨ (p = .b ∧ s.portA.queue = []) ∨ (p = .k ∧ s.portA.queue = [] ∧ s.portB.queue = [])) :
    s.nextPort = some p := by
  have hlink : s.link .a = s.portA ∧ s.link .b = s.portB ∧ s.link .k = s.portK := ⟨rfl, rfl, rfl⟩
  unfold State.nextPort
  cases hl : s.lastPort <;> rw [hl] at h <;>
    rcases h with rfl | ⟨rfl, h1⟩ | ⟨rfl, h1, h2⟩ <;> simp_all [portsAfter]

theorem nextTaking_of_nextPort {s : State} {p : Port} {frame : List Byte} {rest : List (List Byte)}
    (hr : s.resetLine = false) (hh : s.halted = false) (hp : s.nextPort = some p)
    (hq : (s.link p).queue = frame :: rest) :
    s.nextTaking = commandOfFrame p frame ∧ s.canTake p frame = true := by
  simp [State.nextTaking, State.canTake, hr, hh, hp, hq]

theorem nextPort_of_empty {s : State} (h : ∀ p, (s.link p).queue = []) : s.nextPort = none := by
  simp [State.nextPort, h]

/-- Settles O2: the log's turn, then the head frame of the port that the round robin finds, then idling. -/
theorem stepTakesNextFrame : Obligations.StepTakesNextFrame := by
  intro s hpending hr
  refine ⟨fun hw ht => ?_, fun hh hpass => ?_⟩
  · rw [step_of_idle hpending, if_pos ((logActs_iff hr).2 ⟨hw, ht⟩)]
    rfl
  · have hlog : s.logActs ≠ true := by
      rw [Ne, logActs_iff hr]
      tauto
    obtain ⟨hlinks, hlast, hreset, hhalted⟩ := passTurn_keeps s
    rw [hr] at hreset
    rw [hh] at hhalted
    rw [step_of_idle hpending, if_neg hlog, ← passTurn_eq hr]
    intro u
    refine ⟨fun p frame rest i hfirst hq hi => ?_, fun ha hb hk => ?_⟩
    · have hp : u.nextPort = some p := by
        refine nextPort_of_first (by rw [hlinks, hq]; exact List.cons_ne_nil _ _) ?_
        rw [hlast]
        have hA : u.portA = s.portA := hlinks .a
        have hB : u.portB = s.portB := hlinks .b
        have hK : u.portK = s.portK := hlinks .k
        rw [hA, hB, hK]
        exact hfirst
      obtain ⟨htaking, hcan⟩ := nextTaking_of_nextPort (s := u) hreset hhalted hp ((hlinks p).symm ▸ hq)
      refine ⟨by rw [htaking, hi], hcan, ?_, taken_lastPort u p⟩
      have hqueue : ((u.taken p).link p).queue = (u.link p).queue.tail := by cases p <;> rfl
      rw [hqueue, hlinks, hq, List.tail_cons]
    · have hnone : u.nextTaking = none := by
        have hport : u.nextPort = none := nextPort_of_empty fun p => by
          rw [hlinks]
          cases p
          · exact ha
          · exact hb
          · exact hk
        simp [State.nextTaking, hport]
      rw [hnone]

/-! ## The judgement of a taken frame (R170) -/

theorem commandFrame_inj {code code' tag tag' : Byte} {params params' : List Byte}
    (h : commandFrame code tag params = commandFrame code' tag' params') :
    code = code' ∧ tag = tag' ∧ params = params' := by
  simp only [commandFrame, List.cons.injEq] at h
  exact ⟨h.1, h.2.1, h.2.2.2⟩

theorem exec_of_frame {i : Instr} {p q : Port} {code code' tag tag' : Byte} {params params' : List Byte}
    {body : State → Answer} (h : some (p, commandFrame code tag params) = some (q, commandFrame code' tag' params'))
    (hexec : ∀ s, exec i s = .next (s.taking p tag code params body)) :
    ∃ body, ∀ s, exec i s = .next (s.taking q tag' code' params' body) := by
  obtain ⟨rfl, hframe⟩ := Prod.mk.inj (Option.some.inj h)
  obtain ⟨rfl, rfl, rfl⟩ := commandFrame_inj hframe
  exact ⟨body, hexec⟩

/-- A row that is a command frame takes that frame. -/
theorem exec_of_frameOf {i : Instr} {p : Port} {code tag : Byte} {params : List Byte}
    (h : frameOf i = some (p, commandFrame code tag params)) :
    ∃ body, ∀ s, exec i s = .next (s.taking p tag code params body) := by
  cases i with
  | openChannel | closeChannel | setChannel | send | readChannel | assignSlot | setFrame | readTrunk | readSlot | take
  | resume | setSync | loadMaster | eraseMaster | renew | setRenewal | readQuality | setQuality | readFault | status
  | clearStartup | present | setAttention | setPresence | adopt | reset => exact exec_of_frame h fun _ => rfl
  | _ => cases h

/-- The two lists of R171. -/
theorem admittedOn_iff (p : Port) (code : Byte) :
    admittedOn p code = true ↔
      if p = .k then code ∈ ([0x30, 0x31, 0x60, 0x70, 0x71, 0x72, 0x73, 0x7F] : List Byte)
      else code ∉ ([0x30, 0x31, 0x7F] : List Byte) := by
  cases p <;> simp [admittedOn, ← BitVec.toNat_inj]

theorem inStartup_iff (code : Byte) : inStartup code = true ↔ code ∈ ([0x70, 0x71, 0x7F] : List Byte) := by
  simp [inStartup, ← BitVec.toNat_inj]

theorem taking_startup {s : State} {p : Port} {tag code : Byte} {params : List Byte} (body : State → Answer)
    (h : s.canTake p (commandFrame code tag params) = true) (hports : admittedOn p code = true)
    (hstartup : s.startup = true) (hcode : inStartup code = false) :
    s.taking p tag code params body = s.answered p tag code .startup [] := by
  rw [taking_of body h, judge_startup body hports (by simpa using hstartup) hcode]
  rfl

/-- Settles O5: privilege comes first, then the startup condition, whatever the command's body is. -/
theorem commandsAreJudgedInOrder : Obligations.CommandsAreJudgedInOrder := by
  refine ⟨fun s i p tag code params hframe hcan => ?_, fun s p tag code completion results => ?_⟩
  · obtain ⟨body, hexec⟩ := exec_of_frameOf hframe
    intro admitted
    have hports : admittedOn p code = true ↔ admitted := admittedOn_iff p code
    refine ⟨fun hno => ?_, fun hyes hstartup hcode => ?_⟩
    · rw [hexec, taking_privilege body hcan (Bool.eq_false_iff.2 fun h => hno (hports.1 h))]
    · rw [← inStartup_iff, Bool.not_eq_true] at hcode
      rw [hexec, taking_startup body hcan (hports.2 hyes) hstartup hcode]
  · constructor
    · cases completion <;> rfl
    · cases p <;> cases completion <;> rfl

/-! ## Channel commands (R9) -/

theorem channelOf_of_le {ch : Byte} (h : 48 ≤ ch.toNat) : channelOf ch = none := by
  simp [channelOf, Nat.not_lt.2 h]

theorem channelOf_of_eq {ch : Byte} {c : Fin 48} (h : ch.toNat = c.val) : channelOf ch = some c := by
  simp [channelOf, h]

@[simp] theorem taken_present (s : State) (p o : Port) : ((s.taken p).link o).present = (s.link o).present := by
  cases p <;> cases o <;> rfl

@[simp] theorem taken_mayCommand (s : State) (p : Port) (q : Service) (c : Fin 48) :
    (s.taken p).mayCommand q c ↔ s.mayCommand q c := by
  simp [State.mayCommand]

section

variable {s : State} {q : Service} {c : Fin 48} {ch : Byte} {own : Channel → Option Completion}
  (effect : Fin 48 → State → Answer)

theorem channelCommand_of_range (h : 48 ≤ ch.toNat) : channelCommand q.port ch own effect s = refuse .range s := by
  simp [channelCommand, channelOf_of_le h]

theorem channelCommand_of_closed (hc : ch.toNat = c.val) (h : (s.chan c).state = .closed) :
    channelCommand q.port ch own effect s = refuse .state s := by
  simp [channelCommand, channelOf_of_eq hc, h]

theorem channelCommand_of_not_serving (hc : ch.toNat = c.val) (hopen : (s.chan c).state ≠ .closed) {o : Service}
    (ho : (s.chan c).serving = some o) (hne : o ≠ q) (hp : (s.link o.port).present = true) :
    channelCommand q.port ch own effect s = refuse .notServing s := by
  simp [channelCommand, channelOf_of_eq hc, hopen, ho, hne, State.ownerPresent, State.servicePresent, hp]

/-- A port that may command the channel is answered by the command's own checks, then by its effect after adoption. -/
theorem channelCommand_of_mayCommand (hc : ch.toNat = c.val) (hopen : (s.chan c).state ≠ .closed)
    (hm : s.mayCommand q c) :
    channelCommand q.port ch own effect s =
      match own (s.chan c) with
      | some code => refuse code s
      | none => effect c (s.adoptFor c q) := by
  obtain ⟨o, ho, hq⟩ := hm
  have hserving : ¬ ((s.chan c).serving ≠ some q ∧ s.ownerPresent (s.chan c) = true) := by
    rintro ⟨hne, hpresent⟩
    rcases hq with rfl | habsent
    · exact hne ho
    · simp [State.ownerPresent, ho, State.servicePresent, habsent] at hpresent
  simp only [channelCommand, serviceOf_port, channelOf_of_eq hc, if_neg hopen]
  rw [if_neg (by simpa using hserving)] <;> rfl

end

theorem admittedOn_channelCommand {i : Instr} {p : Port} {q : Service} {tag code ch : Byte}
    (h : channelCommandOf i = some (p, tag, code, ch)) : admittedOn q.port code = true := by
  unfold channelCommandOf at h
  split at h
  case h_3 =>
    split at h
    · obtain ⟨-, -, rfl, -⟩ := h
      cases q <;> rfl
    · cases h
  case h_6 => cases h
  all_goals
    obtain ⟨-, -, rfl, -⟩ := h
    cases q <;> rfl

/-- The rows that R9 checks have the checks of a channel command as their body. -/
theorem exec_of_channelCommand {i : Instr} {p : Port} {tag code ch : Byte} {params : List Byte}
    (h : channelCommandOf i = some (p, tag, code, ch)) (hframe : frameOf i = some (p, commandFrame code tag params)) :
    ∃ own effect, ∀ s, exec i s = .next (s.taking p tag code params (channelCommand p ch own effect)) := by
  unfold channelCommandOf at h
  split at h
  case h_3 =>
    split at h
    · rename_i data hdata
      obtain ⟨rfl, rfl, rfl, rfl⟩ := h
      obtain ⟨-, hparams⟩ := Prod.mk.inj (Option.some.inj hframe)
      obtain ⟨-, -, rfl⟩ := commandFrame_inj hparams
      refine ⟨refusedSend, sendEffect data, fun s => ?_⟩
      have hbody : sendBody p ch data = channelCommand p ch refusedSend (sendEffect data) := by
        funext t
        exact if_neg (by omega)
      show Host.Outcome.next (s.taking p tag 0x04 (ch :: data) (sendBody p ch data)) = _
      rw [hbody]
    · cases h
  case h_6 => cases h
  all_goals
    obtain ⟨rfl, rfl, rfl, rfl⟩ := h
    obtain ⟨-, hparams⟩ := Prod.mk.inj (Option.some.inj hframe)
    obtain ⟨-, -, rfl⟩ := commandFrame_inj hparams
    exact ⟨_, _, fun _ => rfl⟩

/-- A taking whose body refuses the state after the taking changes nothing else. -/
theorem taking_refused {s : State} {p : Port} {tag code : Byte} {params : List Byte} {body : State → Answer}
    {k : Completion} (h : s.canTake p (commandFrame code tag params) = true) (hports : admittedOn p code = true)
    (hstartup : s.startup = false) (hbody : body (s.taken p) = refuse k (s.taken p)) :
    s.taking p tag code params body = s.answered p tag code k [] := by
  rw [taking_of_admitted body h hports hstartup, hbody]
  rfl

/-- A SEND within its data lengths is a channel command (R17). -/
theorem exec_send_of_length (s : State) (q : Service) (tag ch : Byte) {data : List Byte} (h1 : 1 ≤ data.length)
    (h48 : data.length ≤ 48) :
    exec (.send q.port tag ch data) s = .next (s.taking q.port tag 0x04 (ch :: data)
      (channelCommand q.port ch refusedSend (sendEffect data))) := by
  have hbody : sendBody q.port ch data = channelCommand q.port ch refusedSend (sendEffect data) := by
    funext s
    exact if_neg (by omega)
  rw [← hbody]
  rfl

/-- An own check of a channel command refuses it, the port being one that may command the channel. -/
theorem taking_own {s : State} {q : Service} {c : Fin 48} {tag code ch : Byte} {params : List Byte}
    {own : Channel → Option Completion} (effect : Fin 48 → State → Answer) {k : Completion}
    (h : s.canTake q.port (commandFrame code tag params) = true) (hports : admittedOn q.port code = true)
    (hstartup : s.startup = false) (hc : ch.toNat = c.val) (hopen : (s.chan c).state ≠ .closed) (hm : s.mayCommand q c)
    (hown : own (s.chan c) = some k) :
    s.taking q.port tag code params (channelCommand q.port ch own effect) = s.answered q.port tag code k [] := by
  refine taking_refused h hports hstartup ?_
  rw [channelCommand_of_mayCommand effect hc (by simpa using hopen) (by simpa using hm), taken_chan, hown]

/-- Settles O6: the checks of R9 come in the order of `channelCommand`, and then the command's own. -/
theorem channelCommandsAreChecked : Obligations.ChannelCommandsAreChecked := by
  refine ⟨fun s i q tag code ch params hi hframe hcan hstartup => ?_, fun s q tag ch data c hstartup => ⟨?_, ?_⟩⟩
  · obtain ⟨own, effect, hexec⟩ := exec_of_channelCommand hi hframe
    have hports : admittedOn q.port code = true := admittedOn_channelCommand hi
    rw [hexec]
    refine ⟨fun h => ?_, fun c hc h => ?_, fun c o hc hopen ho hne hp => ?_⟩
    · rw [taking_refused hcan hports hstartup (channelCommand_of_range effect h)]
    · rw [taking_refused hcan hports hstartup (channelCommand_of_closed effect hc (by simpa using h))]
    · rw [taking_refused hcan hports hstartup (channelCommand_of_not_serving effect hc (by simpa using hopen)
        (by simpa using ho) hne (by simpa using hp))]
  · intro hcan hd
    exact congrArg _ (taking_refused hcan (by cases q <;> rfl) hstartup (if_pos hd))
  · intro hc hm
    refine ⟨fun hcan hs => ?_, fun hcan h1 h48 => ⟨fun hs => ?_, fun hs hopen hfull => ?_⟩, fun hcan hsync hopen => ?_,
      fun hcan => ⟨fun hs => ?_, fun hs hr => ?_⟩⟩
    · exact congrArg _ (taking_own closeEffect hcan (by cases q <;> rfl) hstartup hc (by simp [hs]) hm (if_pos hs))
    · rw [exec_send_of_length s q tag ch h1 h48,
        taking_own _ hcan (by cases q <;> rfl) hstartup hc (by simp [hs]) hm (if_pos hs)]
    · rw [exec_send_of_length s q tag ch h1 h48,
        taking_own _ hcan (by cases q <;> rfl) hstartup hc hopen hm ((if_neg hs).trans (if_pos hfull))]
    · exact congrArg _ (taking_own resumeEffect hcan (by cases q <;> rfl) hstartup hc hopen hm (if_neg hsync))
    · have hopen : (s.chan c).state ≠ .closed := by rcases hs with hs | hs <;> simp [hs]
      exact congrArg _ (taking_own renewEffect hcan (by cases q <;> rfl) hstartup hc hopen hm (if_pos hs))
    · have hopen : (s.chan c).state ≠ .closed := by rcases hs with hs | hs <;> simp [hs]
      have hother : ¬ ((s.chan c).state = .opening ∨ (s.chan c).state = .closing) := by
        rcases hs with hs | hs <;> simp [hs]
      exact congrArg _ (taking_own renewEffect hcan (by cases q <;> rfl) hstartup hc hopen hm
        ((if_neg hother).trans (if_pos hr)))

end Sys2Proof.Machine
end

section
/-! PROOFS. The commands on channels: OPEN, CLOSE, SET_CHANNEL, SEND, RESUME and RENEW (chapter 1, R9, R80, R121). -/

namespace Sys2Proof.Machine

/-! ## OPEN (R10) -/

theorem servingOf_portByte (o : Service) : servingOf (portByte o.port) = some o := by cases o <;> rfl

theorem servingOf_eq_none {b : Byte} (h1 : b ≠ 1) (h2 : b ≠ 2) : servingOf b = none := by
  rw [servingOf, if_neg h1, if_neg h2]

theorem servingOf_isSome {b : Byte} (h : b = 1 ∨ b = 2) : ∃ o, servingOf b = some o := by
  rcases h with rfl | rfl
  · exact ⟨.a, rfl⟩
  · exact ⟨.b, rfl⟩

/-- OPEN's checks, once its channel id, master slot and serving port name something. -/
theorem openBody_of_named {ch slot serving : Byte} {c : Fin 48} {m : Fin 4} {o : Service} (shop : BitVec 32) (s : State)
    (hc : channelOf ch = some c) (hm : masterOf slot = some m) (ho : servingOf serving = some o) :
    openBody ch shop slot serving s =
      if shop = 0 then refuse .range s
      else if (s.chan c).state ≠ .closed then refuse .state s
      else if s.masterEmpty m then refuse .noMaster s
      else { completion := .done, results := [], state := s.setChan c (Channel.opened m shop o) } := by
  simp only [openBody, hc, hm, ho]

/-- OPEN of an id, a slot, a port or a shop code out of range is refused (R10). -/
theorem openBody_of_range {ch slot serving : Byte} {shop : BitVec 32} (s : State)
    (h : 48 ≤ ch.toNat ∨ 4 ≤ slot.toNat ∨ (serving ≠ 1 ∧ serving ≠ 2) ∨ shop = 0) :
    openBody ch shop slot serving s = refuse .range s := by
  unfold openBody
  split
  next c m o hc hm ho =>
    rcases h with h | h | ⟨h1, h2⟩ | h
    · simp [channelOf_of_le h] at hc
    · simp [masterOf_of_le h] at hm
    · simp [servingOf_eq_none h1 h2] at ho
    · rw [if_pos h]
  next => rfl

@[simp] theorem taken_masterEmpty (s : State) (p : Port) (m : Fin 4) : (s.taken p).masterEmpty m = s.masterEmpty m := by
  cases p <;> rfl

/-- Settles O7: by the case of OPEN's checks that the operands and the record meet. -/
theorem openFillsTheRecordOrIsRefused : Obligations.OpenFillsTheRecordOrIsRefused := by
  refine ⟨fun s q o tag ch slot serving shop c m key check hc hm hserving hshop hcan hstartup hclosed hkey => ?_,
    fun s q tag ch slot serving shop hcan hstartup => ⟨fun h => ?_, fun c m hc hm hserving hshop => ?_⟩⟩
  · have hloaded : ¬ s.masterEmpty m = true := by simp [masterEmpty_iff, hkey]
    refine congrArg _ ((taking_fromService _ hcan (by cases q <;> rfl) hstartup).trans ?_)
    rw [openBody_of_named shop _ (channelOf_of_eq hc) (masterOf_of_eq hm) (hserving ▸ servingOf_portByte o), if_neg hshop,
      if_neg (by simpa using hclosed), if_neg (by simpa using hloaded)]
    rfl
  · refine congrArg _ ((taking_fromService _ hcan (by cases q <;> rfl) hstartup).trans ?_)
    rw [openBody_of_range _ h]
    rfl
  · obtain ⟨o, ho⟩ := servingOf_isSome hserving
    refine ⟨fun hopen => ?_, fun hclosed hempty => ?_⟩ <;>
      refine congrArg _ ((taking_fromService _ hcan (by cases q <;> rfl) hstartup).trans ?_) <;>
      rw [openBody_of_named shop _ (channelOf_of_eq hc) (masterOf_of_eq hm) ho, if_neg hshop]
    · rw [if_pos (by simpa using hopen)]
      rfl
    · rw [if_neg (by simpa using hclosed), if_pos (by simpa [masterEmpty_iff] using hempty)]
      rfl

/-! ## Channel commands that are let through (R9) -/

/-- A channel command that no check refuses: the channel is adopted, and the command's effect follows. -/
theorem taking_effect {s : State} {q : Service} {c : Fin 48} {tag code ch : Byte} {params : List Byte}
    {own : Channel → Option Completion} (effect : Fin 48 → State → Answer)
    (h : s.canTake q.port (commandFrame code tag params) = true) (hports : admittedOn q.port code = true)
    (hstartup : s.startup = false) (hc : ch.toNat = c.val) (hopen : (s.chan c).state ≠ .closed) (hm : s.mayCommand q c)
    (hown : own (s.chan c) = none) :
    s.taking q.port tag code params (channelCommand q.port ch own effect) =
      (effect c ((s.taken q.port).adoptFor c q)).state.respond q.port tag code
        (effect c ((s.taken q.port).adoptFor c q)).completion (effect c ((s.taken q.port).adoptFor c q)).results := by
  rw [taking_of_admitted _ h hports hstartup,
    channelCommand_of_mayCommand effect hc (by simpa using hopen) (by simpa using hm), taken_chan, hown]

/-- After adoption the calling port serves the channel (R9, R176). -/
theorem adoptFor_serving (s : State) (c : Fin 48) (q : Service) : ((s.adoptFor c q).chan c).serving = some q := by
  unfold State.adoptFor
  split
  · assumption
  · simp [adoptAll_chan s [c] (List.nodup_singleton c)]

/-- Adoption changes the record's serving port and D count only (R176). -/
theorem adoptFor_record (s : State) (c : Fin 48) (q : Service) :
    ∃ n, (s.adoptFor c q).chan c =
      { (s.chan c) with
        serving := some q
        quality := { (s.chan c).quality with counts := { (s.chan c).quality.counts with d := n } } } := by
  rcases adoptFor_chan s c q with h | ⟨n, h⟩
  · refine ⟨(s.chan c).quality.counts.d, ?_⟩
    have hserving := adoptFor_serving s c q
    rw [h] at hserving ⊢
    rw [← hserving]
  · exact ⟨_, h⟩

/-- Adoption draws no nonce and changes no parameter. -/
theorem adoptFor_source (s : State) (c : Fin 48) (q : Service) :
    (s.adoptFor c q).nonceIndex = s.nonceIndex ∧ (s.adoptFor c q).renewalParams = s.renewalParams := by
  unfold State.adoptFor
  split
  · exact ⟨rfl, rfl⟩
  · obtain ⟨channels, log, h, -⟩ := adoptAll_eq s [c] q
    rw [h]
    cases q <;> exact ⟨rfl, rfl⟩

/-! ## CLOSE, SET_CHANNEL, SEND, RESUME and RENEW -/

theorem closing_eq (r : Channel) :
    r.closing =
      { r with
        state := .closing, outbound := [], pendingCells := [], renewal := .idle, wanted := none, holdOff := 0,
        offerTimer := none, renewRetries := 0, challenge := none, resyncRetries := 0, resyncTimer := none,
        current := none, previous := none, pendingEntry := none, base := none, held := false, sync := .sync,
        syncLoss := 0, quality := { r.quality with silenceRunning := false } } := rfl

/-- CLOSE's effect on a channel that the port serves: the cells leave that port's queue. -/
theorem closeEffect_of_serving {s : State} {c : Fin 48} {q : Service} (h : (s.chan c).serving = some q) :
    closeEffect c s =
      { completion := .done
        results := [BitVec.ofNat 8 (s.chan c).outbound.length, BitVec.ofNat 8 (cellsOf c (s.inbound q))]
        state := (s.setInbound q ((s.inbound q).filter (fun x => decide (x.channel ≠ c)))).setChan c
          (s.chan c).closing } := by
  unfold closeEffect State.inboundCount State.removeInbound
  simp only [h, u8_eq]
  rw [State.modChan, setInbound_chan]
  rfl

/-- Settles O8: CLOSE's effect after adoption, the calling port serving the channel then. -/
theorem closeTearsDown : Obligations.CloseTearsDown := by
  intro s q tag ch c hc hcan hstartup hstate hm t
  have hopen : (s.chan c).state ≠ .closed ∧ (s.chan c).state ≠ .closing := by
    rcases hstate with h | h | h <;> simp [h]
  refine congrArg _ ((taking_effect closeEffect hcan (by cases q <;> rfl) hstartup hc hopen.1 hm
    (if_neg hopen.2)).trans ?_)
  rw [closeEffect_of_serving (adoptFor_serving _ c q), closing_eq]
  rfl

theorem clampPreset_eq (n : Nat) : clampPreset n = if n < 1024 then 1024 else if 16000000 < n then 16000000 else n := by
  unfold clampPreset clamp
  split_ifs <;> omega

theorem clampAgeLimit_eq (n : Nat) :
    clampAgeLimit n = if n ≤ 127 then 0 else if n ≤ 255 then 256 else if 4000000000 < n then 4000000000 else n := by
  unfold clampAgeLimit
  split_ifs <;> omega

/-- The AGE trigger's comparison, by the current entry (R102). -/
theorem judgeAge_eq (s : State) (c : Fin 48) :
    s.judgeAge c =
      match (s.chan c).current with
      | some e => if (s.chan c).ageLimit ≠ 0 ∧ (s.chan c).ageLimit ≤ e.age then s.trigger c .age else s
      | none => s := by
  unfold State.judgeAge Channel.ageReached
  cases (s.chan c).current <;> simp

theorem clampedAnswer_pair (a b x y : Nat) :
    clampedAnswer (a, b) (x, y) = if x = a ∧ y = b then .done else .adjusted := by
  simp only [clampedAnswer, Prod.mk.injEq, eq_comm]

/-- Settles O9: SET_CHANNEL's effect after adoption, with R8's clamps written out. -/
theorem setChannelWritesClampedParameters : Obligations.SetChannelWritesClampedParameters := by
  intro s q tag ch preset limit c hc hcan hstartup hopen hm usedPreset usedLimit t
  have hpreset : clampPreset preset.toNat = usedPreset := clampPreset_eq _
  have hlimit : clampAgeLimit limit.toNat = usedLimit := clampAgeLimit_eq _
  have hage : (t.chan c).ageLimit = usedLimit := by simp [t]
  refine congrArg _ ((taking_effect (setChannelEffect preset.toNat limit.toNat) hcan (by cases q <;> rfl) hstartup hc hopen
    hm rfl).trans ?_)
  simp only [setChannelEffect, hpreset, hlimit, clampedAnswer_pair]
  rw [judgeAge_eq, hage]
  rfl

theorem ofBigEndian_append_zeros (data : List Byte) (n : Nat) :
    ofBigEndian (data ++ List.replicate n 0) = ofBigEndian data * 256 ^ n := by
  unfold ofBigEndian
  rw [List.foldl_append]
  generalize data.foldl _ 0 = m
  induction n generalizing m with
  | zero => simp
  | succ n ih =>
    rw [List.replicate_succ, List.foldl_cons, ih, Nat.pow_succ]
    simp [Nat.mul_assoc, Nat.mul_comm]

/-- Settles O10: SEND's effect after adoption, its payload being the data bytes followed by zero bytes. -/
theorem sendQueuesOneCell : Obligations.SendQueuesOneCell := by
  intro s q tag ch data c hc hcan hstartup h1 h48 hstate hm hroom
  have hopen : (s.chan c).state ≠ .closed ∧ (s.chan c).state ≠ .closing := by
    rcases hstate with h | h | h <;> simp [h]
  have hown : refusedSend (s.chan c) = none :=
    (if_neg hopen.2).trans (if_neg (by simpa [Config.outboundDepth] using hroom))
  obtain ⟨n, hr⟩ := adoptFor_record (s.taken q.port) c q
  rw [exec_send_of_length s q tag ch h1 h48,
    taking_effect (sendEffect data) hcan (by cases q <;> rfl) hstartup hc hopen.1 hm hown]
  simp only [sendEffect, hr, u8_eq, outboundCell, payloadOf, ofBigEndian_append_zeros, taken_chan]

/-- Settles O11: RESUME's effect after adoption. -/
theorem resumeReturnsToSync : Obligations.ResumeReturnsToSync := by
  intro s q tag ch c hc hcan hstartup hopen hm hsync
  exact congrArg _ (taking_effect resumeEffect hcan (by cases q <;> rfl) hstartup hc hopen hm (if_pos hsync))

theorem newEpoch_eq (r : Channel) :
    r.newEpoch =
      match r.current with
      | some e => if e.key.epoch = 255 then 1 else e.key.epoch + 1
      | none => 1 := by
  unfold Channel.newEpoch epochAfter
  cases r.current <;> rfl

/-- A COMMAND trigger on a triggerable record in IDLE starts a renewal, whatever the hold-off (R101, R103, R105). -/
theorem trigger_command_of_idle {s : State} {c : Fin 48} (ht : (s.chan c).triggerable = true)
    (hidle : (s.chan c).renewal = .idle) :
    s.trigger c .command =
      (s.modChan c (fun r =>
        { r with
          wanted := some .command
          renewal := .offered
          pendingEntry := some { epoch := r.newEpoch, nonce := s.nextNonce, keys := none }
          pendingCells := enqueue (.offer r.newEpoch s.nextNonce) r.pendingCells
          renewRetries := s.renewalParams.retryLimit
          offerTimer := none })).afterDraw := by
  have hdue : ((s.chan c).note .command).startDue = true := by
    rw [startDue_iff (k := .command) (by simpa [note_eq, triggerable_iff] using ht) rfl]
    exact ⟨hidle, .inr (.inl rfl)⟩
  rw [trigger_of_startDue ht hdue]
  rfl

/-- Settles O12: RENEW's effect after adoption, which changes neither the record's epoch nor the nonce source. -/
theorem renewStartsARenewal : Obligations.RenewStartsARenewal := by
  intro s q tag ch c hc hcan hstartup hstate hm hidle epoch
  have hopen : (s.chan c).state ≠ .closed ∧ ¬ ((s.chan c).state = .opening ∨ (s.chan c).state = .closing) := by
    rcases hstate with h | h <;> simp [h]
  have hown : refusedRenew (s.chan c) = none := (if_neg hopen.2).trans (if_neg (by simpa using hidle))
  obtain ⟨n, hr⟩ := adoptFor_record (s.taken q.port) c q
  obtain ⟨hnonce, hparams⟩ := adoptFor_source (s.taken q.port) c q
  set t := (s.taken q.port).adoptFor c q with ht
  rw [taken_chan] at hr
  have hepoch : (t.chan c).newEpoch = epoch := (newEpoch_congr (by rw [hr])).trans (newEpoch_eq (s.chan c))
  have hdraw : t.nextNonce = s.nextNonce := by
    unfold State.nextNonce
    rw [hnonce]
    cases q <;> rfl
  have hretries : t.renewalParams = s.renewalParams := by
    rw [hparams]
    cases q <;> rfl
  have htrigger := trigger_command_of_idle (s := t) (c := c) (by simpa [triggerable_iff, hr] using hstate)
    (by rw [hr]; exact hidle)
  rw [hdraw, hretries, State.modChan, hepoch] at htrigger
  refine congrArg _ ((taking_effect renewEffect hcan (by cases q <;> rfl) hstartup hc hopen.1 hm hown).trans ?_)
  rw [← ht]
  simp only [renewEffect, hepoch, htrigger, u8_eq, BitVec.ofNat_toNat, BitVec.setWidth_eq]
  rfl

end Sys2Proof.Machine
end

section
/-! PROOFS. ADOPT of one channel and of all (R24, R176, R177). -/

namespace Sys2Proof.Machine

/-! ## One channel -/

/-- Where every cell is channel c's, all count as its. -/
theorem cellsOf_drop_filter (c : Fin 48) (cells : List Delivered) (n : Nat) :
    cellsOf c ((cells.filter (fun x => decide (x.channel = c))).drop n) =
      (cells.filter (fun x => decide (x.channel = c))).length - n := by
  have hall : ∀ x ∈ (cells.filter (fun x => decide (x.channel = c))).drop n, decide (x.channel = c) = true := fun x hx =>
    (List.mem_filter.mp (List.mem_of_mem_drop hx)).2
  rw [cellsOf, List.filter_eq_self.mpr hall, List.length_drop]

theorem raiseOverruns_single (s : State) (c : Fin 48) (p : Service) (dropped : List Delivered) :
    s.raiseOverruns [c] p dropped =
      if cellsOf c dropped = 0 then s else s.raise .inboundOverrun (some c) (some p.port) (cellsOf c dropped) := rfl

theorem adoptRecords_single (s : State) (c : Fin 48) (p : Service) (dropped : List Delivered) :
    s.adoptRecords [c] p dropped =
      s.modChan c (fun r => { r.countDropped (cellsOf c dropped) with serving := some p }) := rfl

/-- Adoption of one channel, whole (R176). -/
theorem adoptAll_single (s : State) (c : Fin 48) (p : Service) :
    let leaving := (s.inbound p.other).filter (fun x => decide (x.channel = c))
    let room := 32 - (s.inbound p).length
    let dropped := leaving.length - room
    let t := ((s.setInbound p.other ((s.inbound p.other).filter (fun x => decide (x.channel ≠ c)))).setInbound p
        (s.inbound p ++ leaving.take room)).modChan c
      (fun r => { r.countDropped dropped with serving := some p })
    s.adoptAll [c] p =
      { state := if dropped = 0 then t else t.raise .inboundOverrun (some c) (some p.port) dropped
        moved := min leaving.length room
        dropped := dropped } := by
  have hin : ∀ x : Delivered, [c].contains x.channel = decide (x.channel = c) := fun x => by simp
  simp only [State.adoptAll, hin, adoptRecords_single, raiseOverruns_single, cellsOf_drop_filter, Config.inboundDepth,
    List.length_take, List.length_drop, Nat.min_comm, decide_not]

theorem adoptBody_of_channel {ch : Byte} {c : Fin 48} (hc : ch.toNat = c.val) (p : Service) (s : State) :
    adoptBody ch p s = adoptOne p c s := by
  have hne : ch ≠ 255 := by
    rintro rfl
    have : (255 : Nat) = c.val := hc
    omega
  simp only [adoptBody, if_neg hne, channelOf_of_eq hc]

theorem adoptBody_of_range {ch : Byte} (h : 48 ≤ ch.toNat) (h' : ch.toNat ≤ 254) (p : Service) (s : State) :
    adoptBody ch p s = refuse .range s := by
  have hne : ch ≠ 255 := by
    rintro rfl
    exact absurd h' (by decide)
  simp only [adoptBody, if_neg hne, channelOf_of_le h]

@[simp] theorem taken_servicePresent (s : State) (q o : Service) :
    (s.taken q.port).servicePresent o = (s.link o.port).present := taken_present s q.port o.port

/-- Settles O23: by the case of ADOPT's checks, the adoption itself being `adoptAll_single`. -/
theorem adoptTakesOneChannel : Obligations.AdoptTakesOneChannel := by
  intro s q tag ch hstartup hcan
  have hexec : exec (.adopt q.port tag ch) s = .next _ :=
    congrArg Host.Outcome.next (taking_fromService (adoptBody ch) hcan (by cases q <;> rfl) hstartup)
  refine ⟨fun h h' => ?_, fun c hc => ⟨fun hclosed => ?_, fun hopen hself => ⟨?_, ?_⟩, fun hopen hother =>
    ⟨fun hpresent => ?_, fun habsent => ?_⟩⟩⟩
  · rw [hexec, adoptBody_of_range h h']
    rfl
  · rw [hexec, adoptBody_of_channel hc, adoptOne, if_pos (by simpa using hclosed)]
    rfl
  · rw [hexec, adoptBody_of_channel hc, adoptOne, if_neg (by simpa using hopen), if_pos (by simpa using hself)]
    rfl
  · exact adoptFor_self (by simpa using hself)
  · rw [hexec, adoptBody_of_channel hc, adoptOne, if_neg (by simpa using hopen), if_neg (by simpa using hother),
      if_pos (by simpa using hpresent)]
    rfl
  · intro leaving room dropped t adopted
    have hadopt : (s.taken q.port).adoptAll [c] q =
        { state := adopted, moved := min leaving.length room, dropped := dropped } := by
      rw [adoptAll_single]
      simp only [taken_inbound]
      rfl
    constructor
    · rw [hexec, adoptBody_of_channel hc, adoptOne, if_neg (by simpa using hopen), if_neg (by simpa using hother),
        if_neg (by simpa using habsent), hadopt, adoptAnswer]
      simp only [u8_eq]
      rfl
    · rw [State.adoptFor, if_neg (by simpa using hother), hadopt]

/-! ## Every channel of the other port -/

/-- Overrun faults neither read nor change the queues and the records: only the channels that lost cells have one. -/
theorem raiseOverruns_with (s : State) (chosen : List (Fin 48)) (p : Service) (dropped : List Delivered)
    (channels : Vector Channel 48) (a b : List Delivered) :
    ({ s with channels := channels, inboundA := a, inboundB := b } : State).raiseOverruns chosen p dropped =
      { (chosen.filter (fun c => decide (cellsOf c dropped ≠ 0))).foldl
          (fun t c => (t.inEvent s.log.event).raise .inboundOverrun (some c) (some p.port) (cellsOf c dropped)) s with
        channels := channels, inboundA := a, inboundB := b } := by
  unfold State.raiseOverruns
  dsimp only
  generalize s.log.event = event
  induction chosen generalizing s with
  | nil => rfl
  | cons c cs ih =>
    rw [List.foldl_cons, List.filter_cons]
    by_cases h : cellsOf c dropped = 0
    · rw [if_pos h, if_neg (by simpa using h), ih]
    · rw [if_neg h, if_pos (by simpa using h), List.foldl_cons, ← ih]
      rfl

theorem raiseOverruns_log {s u : State}
    (h : u = { s with channels := u.channels, inboundA := u.inboundA, inboundB := u.inboundB }) (chosen : List (Fin 48))
    (p : Service) (dropped : List Delivered) :
    (u.raiseOverruns chosen p dropped).log =
      ((chosen.filter (fun c => decide (cellsOf c dropped ≠ 0))).foldl
        (fun t c => (t.inEvent s.log.event).raise .inboundOverrun (some c) (some p.port) (cellsOf c dropped)) s).log :=
  (congrArg (fun v => (v.raiseOverruns chosen p dropped).log) h).trans
    (congrArg State.log (raiseOverruns_with s chosen p dropped _ _ _))

theorem servedBy_nodup (s : State) (q : Service) : (s.servedBy q).Nodup := (List.nodup_finRange 48).filter _

theorem mem_servedBy {s : State} {q : Service} {c : Fin 48} :
    c ∈ s.servedBy q ↔ (s.chan c).state ≠ .closed ∧ (s.chan c).serving = some q := by
  simp [State.servedBy]

@[simp] theorem taken_servedBy (s : State) (p : Port) (q : Service) : (s.taken p).servedBy q = s.servedBy q := by
  simp [State.servedBy]

/-- The log after an adoption: the overrun faults of the chosen channels that lost cells (R156, R176). -/
theorem adoptAll_log (s : State) (chosen : List (Fin 48)) (p : Service) :
    let dropped := ((s.inbound p.other).filter (fun x => chosen.contains x.channel)).drop (32 - (s.inbound p).length)
    (s.adoptAll chosen p).state.log =
      ((chosen.filter (fun c => decide (cellsOf c dropped ≠ 0))).foldl
        (fun t c => (t.inEvent s.log.event).raise .inboundOverrun (some c) (some p.port) (cellsOf c dropped)) s).log := by
  intro dropped
  unfold State.adoptAll
  dsimp only
  rw [adoptRecords_eq]
  refine raiseOverruns_log ?_ chosen p dropped
  cases p <;> rfl

/-- Settles O24: adoption of the channels that the other port serves. -/
theorem adoptTakesEveryChannel : Obligations.AdoptTakesEveryChannel := by
  intro s q tag hstartup hcan
  have hexec : exec (.adopt q.port tag 255) s = .next _ :=
    congrArg Host.Outcome.next (taking_fromService (adoptBody 255) hcan (by cases q <;> rfl) hstartup)
  refine ⟨fun hpresent => ?_, fun habsent => ?_⟩
  · rw [hexec, adoptBody, if_pos rfl, adoptEvery, if_pos (by simpa using hpresent)]
    rfl
  · intro adopted leaving room dropped lost
    set chosen := s.servedBy q.other with hchosen
    have hserved : chosen = (List.finRange 48).filter adopted := by
      simp only [hchosen, State.servedBy, adopted, Bool.decide_and]
    have hmem : ∀ c, chosen.contains c = adopted c := fun c => by
      rw [Bool.eq_iff_iff, List.contains_iff_mem, hchosen, mem_servedBy]
      simp [adopted]
    have hleaving : (s.inbound q.other).filter (fun x => chosen.contains x.channel) = leaving := by
      simp only [hmem, leaving]
    have hbody : adoptBody 255 q (s.taken q.port) = adoptAnswer chosen.length ((s.taken q.port).adoptAll chosen q) := by
      rw [adoptBody, if_pos rfl, adoptEvery, if_neg (by simpa using habsent), taken_servedBy]
    obtain ⟨hmoved, hstaying⟩ := adoptAll_inbound (s.taken q.port) chosen q
    obtain ⟨channels, log, hstate, -⟩ := adoptAll_eq (s.taken q.port) chosen q
    simp only [taken_inbound, hleaving] at hmoved
    simp only [taken_inbound, hmem] at hstaying
    have hlog := adoptAll_log (s.taken q.port) chosen q
    simp only [taken_inbound, hleaving] at hlog
    have hnodup : chosen.Nodup := servedBy_nodup s q.other
    refine ⟨_, hexec, fun c => ?_, ?_, ?_, ?_, ?_⟩ <;> rw [hbody]
    · show ((s.taken q.port).adoptAll chosen q).state.chan c = _
      rw [adoptAll_chan _ _ hnodup]
      simp only [taken_chan, taken_inbound, ← List.contains_iff_mem, hmem]
      rfl
    · exact hmoved
    · exact hstaying
    · refine hlog.trans ?_
      rw [hserved, List.filter_filter]
      simp only [Bool.and_comm (decide _)]
      cases q <;> rfl
    · have hmovedCount : ((s.taken q.port).adoptAll chosen q).moved = min leaving.length room := by
        simp only [State.adoptAll, taken_inbound, hleaving, List.length_take, Nat.min_comm]
        rfl
      have hdropped : ((s.taken q.port).adoptAll chosen q).dropped = dropped.length := by
        simp only [State.adoptAll, taken_inbound, hleaving]
        rfl
      have hchosen' : chosen.length = ((List.finRange 48).filter adopted).length := congrArg _ hserved
      simp only [adoptAnswer, u8_eq, hmovedCount, hdropped, hchosen', hstate]
      cases q <;> rfl

end Sys2Proof.Machine
end

section
/-! PROOFS. Commands that read the state, and those that write parameters and slots (R23, R39, R40, R46, R47, R86, R99,
R150, R152, R172, R174, R175, R178, R179). -/

namespace Sys2Proof.Machine

/-! ## Reads of a channel (R23, R152) -/

theorem ofNat_toNat_byte (b : Byte) : BitVec.ofNat 8 b.toNat = b := BitVec.ofNat_toNat 8 b |>.trans (BitVec.setWidth_eq b)

theorem optNum_none (width : Nat) : optNum width none = 0 :: bigEndian width 0 := rfl

theorem optNum_some (width n : Nat) : optNum width (some n) = 1 :: bigEndian width n := rfl

theorem bigEndian_one (n : Nat) : bigEndian 1 n = [BitVec.ofNat 8 n] := u8_eq n

theorem readChannelBody_of_eq {ch : Byte} {c : Fin 48} (hc : ch.toNat = c.val) (s : State) :
    readChannelBody ch s = { completion := .done, results := (s.chan c).summary, state := s } := by
  simp only [readChannelBody, channelOf_of_eq hc]

theorem readQualityBody_of_eq {ch : Byte} {c : Fin 48} (hc : ch.toNat = c.val) (s : State) :
    readQualityBody ch s =
      { completion := .done
        results := (s.chan c).quality.bytes ++ u16 s.periodTimer ++ u16 s.qualityParams.period
        state := s } := by
  simp only [readQualityBody, channelOf_of_eq hc]

/-- READ_CHANNEL's results, cut into the parts that R23's rows encode. -/
theorem summary_parts (r : Channel) :
    r.summary =
      ([r.state.byte] ++ optPort (r.serving.map Service.port)) ++
        optNum 1 (r.master.map (·.val)) ++ optNum 4 (r.shop.map (·.toNat)) ++
        (optNum 1 (r.current.map (·.key.epoch.toNat)) ++ u24 ((r.current.map (·.nextTx)).getD 0) ++
          u32 ((r.current.map (·.age)).getD 0)) ++
        (optNum 1 (r.previous.map (·.key.epoch.toNat)) ++ u8 ((r.previous.map (·.cutover)).getD 0)) ++
        (optNum 1 (r.pendingEntry.map (·.epoch.toNat)) ++ [flagByte ((r.pendingEntry.bind (·.keys)).isSome)]) ++
        [r.renewal.byte, (r.wanted.map Cause.byte).getD 0] ++ u16 r.holdOff ++
        ([r.sync.byte] ++ u8 r.syncLoss ++ [flagByte r.held] ++ u8 r.outbound.length ++
          [r.familyByte .renewal, r.familyByte .challenge, r.familyByte .answer]) ++
        u24 r.preset ++ u32 r.ageLimit := by
  unfold Channel.summary
  repeat rw [← List.append_assoc]

theorem optNum_length (width : Nat) (n : Option Nat) : (optNum width n).length = width + 1 := by
  rw [optNum, List.length_cons, bigEndian_length]

theorem optPort_length (p : Option Port) : (optPort p).length = 1 := rfl

theorem u8_length (n : Nat) : (u8 n).length = 1 := rfl

theorem u16_length (n : Nat) : (u16 n).length = 2 := rfl

theorem u24_length (n : Nat) : (u24 n).length = 3 := rfl

theorem u32_length (n : Nat) : (u32 n).length = 4 := rfl

theorem summary_length (r : Channel) : r.summary.length = 42 := by
  unfold Channel.summary
  simp only [List.length_append, optNum_length, optPort_length, u8_length, u16_length, u24_length, u32_length,
    List.length_cons, List.length_nil]

/-- Settles O13: the reads keep the state, and their bytes are compared part by part. -/
theorem channelReadsChangeNothing : Obligations.ChannelReadsChangeNothing := by
  refine fun s q tag ch hstartup => ⟨fun hcan => ⟨fun h => ?_, ?_⟩,
    fun hcan => ⟨fun h => ?_, ?_⟩⟩
  · refine congrArg _ ((taking_fromService _ hcan (by cases q <;> rfl) hstartup).trans ?_)
    simp only [readChannelBody, channelOf_of_le h]
    rfl
  · intro c hc r kindIn fields
    have hfields : r.summary = fields := by
      rw [summary_parts]
      iterate 10 refine congrArg₂ (· ++ ·) ?_ ?_
      · cases r.serving with
        | none => rfl
        | some o => cases o <;> rfl
      · cases r.master <;> simp [optNum_none, optNum_some, bigEndian_one]
      · cases r.shop <;> rfl
      · cases r.current <;> simp [optNum_none, optNum_some, u24, u32, bigEndian]
      · cases r.previous <;> simp [optNum_none, optNum_some, bigEndian_one, u8_eq]
      · cases r.pendingEntry <;> simp [optNum_none, optNum_some, bigEndian_one, flagByte]
      · cases r.wanted with
        | none => rfl
        | some k => cases k <;> rfl
      · rfl
      · simp only [u8_eq]
        rfl
      all_goals rfl
    refine ⟨hfields ▸ summary_length r, congrArg _ ((taking_fromService _ hcan (by cases q <;> rfl) hstartup).trans ?_)⟩
    rw [readChannelBody_of_eq hc, ← hfields, taken_chan]
    rfl
  · refine congrArg _ ((taking_fromService _ hcan (by cases q <;> rfl) hstartup).trans ?_)
    simp only [readQualityBody, channelOf_of_le h]
    rfl
  · intro c hc v
    refine congrArg _ ((taking_fromService _ hcan (by cases q <;> rfl) hstartup).trans ?_)
    rw [readQualityBody_of_eq hc, taken_chan]
    refine congrArg (State.respond (s.taken q.port) q.port tag 0x50 .done) ?_
    show v.bytes ++ _ ++ _ = _
    simp only [Quality.bytes, Counts.bytes, u16, ← List.append_assoc]
    iterate 22 refine congrArg₂ (· ++ ·) ?_ ?_
    · cases v.lastScore <;> rfl
    all_goals cases q <;> rfl

/-! ## Parameters (R86, R99, R150, R174) -/

theorem clampedAnswer_eq {α : Type} [DecidableEq α] (given used : α) :
    clampedAnswer given used = if used = given then .done else .adjusted := by
  simp only [clampedAnswer, eq_comm]

theorem clampReceive_eq (jump : BitVec 16) (threshold : Byte) :
    clampReceive { jump := jump.toNat, threshold := threshold.toNat } =
      { jump := max 64 jump.toNat, threshold := max 1 (min 15 threshold.toNat) } := by
  have := jump.isLt
  simp only [clampReceive, clamp, ReceiveParams.mk.injEq, and_true]
  omega

theorem clampRenewal_eq (tOffer : BitVec 16) (retries window : Byte) :
    clampRenewal { tOffer := tOffer.toNat, retryLimit := retries.toNat, cutover := window.toNat } =
      { tOffer := max 4 (min 1023 tOffer.toNat), retryLimit := min 7 retries.toNat, cutover := max 1 window.toNat } := by
  have := window.isLt
  simp only [clampRenewal, clamp, RenewalParams.mk.injEq, true_and]
  omega

theorem clampPresence_eq (period : BitVec 16) : clampPresence period.toNat = max 16 period.toNat := by
  have := period.isLt
  simp only [clampPresence, clamp]
  omega

theorem clampQuality_eq (period low high silence : BitVec 16) (storm : Byte) :
    clampQuality
        { period := period.toNat, low := low.toNat, high := high.toNat, stormLimit := storm.toNat,
          silenceLimit := silence.toNat } =
      { period := max 16 period.toNat, low := min 1000 low.toNat, high := min 1000 high.toNat,
        stormLimit := max 1 storm.toNat, silenceLimit := max 16 silence.toNat } := by
  have := period.isLt
  have := silence.isLt
  have := storm.isLt
  simp only [clampQuality, clamp, QualityParams.mk.injEq]
  omega

/-- Settles O14: each command's body with its clamps written out. -/
theorem parameterCommandsClampOrRefuse : Obligations.ParameterCommandsClampOrRefuse := by
  refine ⟨fun s q tag threshold retries window jump tOffer period hstartup => ⟨fun hcan => ?_, fun hcan => ?_,
    fun hcan => ?_⟩, fun s q tag storm period low high silence hstartup hcan => ?_⟩
  · refine congrArg _ ((taking_fromService _ hcan (by cases q <;> rfl) hstartup).trans ?_)
    simp only [setSyncBody, clampReceive_eq, clampedAnswer_eq, ReceiveParams.mk.injEq, u8_eq]
    rfl
  · refine congrArg _ ((taking_fromService _ hcan (by cases q <;> rfl) hstartup).trans ?_)
    simp only [setRenewalBody, clampRenewal_eq, clampedAnswer_eq, RenewalParams.mk.injEq, u8_eq]
    rfl
  · refine congrArg _ ((taking_fromService _ hcan (by cases q <;> rfl) hstartup).trans ?_)
    simp only [setPresenceBody, clampPresence_eq, clampedAnswer_eq]
    rfl
  · refine ⟨fun hle => congrArg _ ((taking_fromService _ hcan (by cases q <;> rfl) hstartup).trans ?_),
      fun hlt => congrArg _ ((taking_fromService _ hcan (by cases q <;> rfl) hstartup).trans ?_)⟩
    · simp only [setQualityBody, clampQuality_eq, if_pos hle]
      rfl
    · simp only [setQualityBody, clampQuality_eq, if_neg (Nat.not_le.mpr hlt), clampedAnswer_eq,
        QualityParams.mk.injEq, u8_eq]
      rfl

/-! ## Slots and the trunk (R39, R40, R46, R47) -/

theorem clampFrame_eq (frame beatLen slip loss : BitVec 16) :
    clampFrame { slots := frame.toNat, beatLen := beatLen.toNat, slip := slip.toNat, loss := loss.toNat } =
      { slots := max 8 (min 64 frame.toNat), beatLen := max 256 beatLen.toNat,
        slip := max 1 (min (max 256 beatLen.toNat / 4) slip.toNat), loss := max 2 (min 15 loss.toNat) } := by
  have hlen : clamp 256 65535 beatLen.toNat = max 256 beatLen.toNat := by
    have := beatLen.isLt
    simp only [clamp]
    omega
  simp only [clampFrame, hlen]
  rfl

theorem slotOf_of_le {slot : Byte} (h : 64 ≤ slot.toNat) : slotOf slot = none := by
  rw [slotOf, dif_neg (by omega)]

theorem slotOf_of_eq {slot : Byte} {n : Fin 64} (h : slot.toNat = n.val) : slotOf slot = some n := by
  rw [slotOf, dif_pos (by omega)]
  exact congrArg some (Fin.ext h)

theorem slotKindOf_of_range {kind ch : Byte} (h : 3 ≤ kind.toNat ∨ (kind = 1 ∧ 48 ≤ ch.toNat)) :
    slotKindOf kind ch = none := by
  rcases h with h | ⟨rfl, h⟩
  · have hne : ∀ k : Byte, k.toNat < 3 → kind ≠ k := by
      rintro k hk rfl
      omega
    rw [slotKindOf, if_neg (hne 0 (by decide)), if_neg (hne 1 (by decide)), if_neg (hne 2 (by decide))]
  · rw [slotKindOf, if_neg (by decide), if_pos rfl, channelOf_of_le h]
    rfl

/-- The bytes of a slot kind and the byte that ASSIGN_SLOT gives for its channel. -/
theorem assignSlotBody_of_eq {slot kind ch : Byte} {n : Fin 64} {k : SlotKind} (hn : slot.toNat = n.val)
    (hk : slotKindOf kind ch = some k) (s : State) :
    assignSlotBody slot kind ch s =
      { completion := .done
        results := (s.mapEntry n).inForce.bytes ++ 1 :: k.bytes
        state := s.setMapEntry n { s.mapEntry n with pending := some k } } := by
  simp only [assignSlotBody, slotOf_of_eq hn, hk]
  rfl

/-- Settles O15: SET_FRAME with its clamps written out; ASSIGN_SLOT by the kind that its bytes name. -/
theorem slotCommandsWritePendingValues : Obligations.SlotCommandsWritePendingValues := by
  refine ⟨?_, fun s q tag slot kind ch hstartup hcan => ⟨fun h => ?_, fun n k hn hk => ?_⟩⟩
  · intro s q tag frame beatLen slip loss hstartup hcan f b sl lo
    refine congrArg _ ((taking_fromService _ hcan (by cases q <;> rfl) hstartup).trans ?_)
    simp only [setFrameBody, clampFrame_eq, clampedAnswer_eq, FrameParams.mk.injEq, FrameParams.bytes, u8_eq]
    cases q <;> rfl
  · refine congrArg _ ((taking_fromService _ hcan (by cases q <;> rfl) hstartup).trans ?_)
    have hbody : assignSlotBody slot kind ch (s.taken q.port) = refuse .range (s.taken q.port) := by
      unfold assignSlotBody
      split
      next hslot hkind =>
        rcases h with h | h
        · simp [slotOf_of_le h] at hslot
        · simp [slotKindOf_of_range h] at hkind
      next => rfl
    rw [hbody]
    rfl
  · refine congrArg _ ((taking_fromService _ hcan (by cases q <;> rfl) hstartup).trans ?_)
    have hmap : (s.taken q.port).mapEntry n = s.sequencer.map[n] := by cases q <;> rfl
    cases k with
    | unused =>
      obtain rfl : kind = 0 := hk
      rw [assignSlotBody_of_eq hn (k := .unused) rfl, hmap]
      cases q <;> rfl
    | data c =>
      obtain ⟨rfl, hc⟩ : kind = 1 ∧ ch.toNat = c.val := hk
      have hkind : slotKindOf 1 ch = some (.data c) := by
        rw [slotKindOf, if_neg (by decide), if_pos rfl, channelOf_of_eq hc]
        rfl
      have hch : BitVec.ofNat 8 c.val = ch := hc ▸ ofNat_toNat_byte ch
      rw [assignSlotBody_of_eq hn hkind, hmap, SlotKind.bytes.eq_2, hch]
      cases q <;> rfl
    | control =>
      obtain rfl : kind = 2 := hk
      rw [assignSlotBody_of_eq hn (k := .control) rfl, hmap]
      cases q <;> rfl

/-- Settles O16: the reads keep the state, and their bytes are the manual's. -/
theorem trunkReadsChangeNothing : Obligations.TrunkReadsChangeNothing := by
  refine fun s q tag slot hstartup => ⟨fun hcan => ?_, fun hcan => ⟨fun h => ?_, fun n hn => ?_⟩⟩
  · refine congrArg _ ((taking_fromService _ hcan (by cases q <;> rfl) hstartup).trans ?_)
    simp only [readTrunkBody, FrameParams.bytes, u8_eq]
    cases q <;> rfl
  · refine congrArg _ ((taking_fromService _ hcan (by cases q <;> rfl) hstartup).trans ?_)
    simp only [readSlotBody, slotOf_of_le h]
    rfl
  · refine congrArg _ ((taking_fromService _ hcan (by cases q <;> rfl) hstartup).trans ?_)
    have hmap : (s.taken q.port).mapEntry n = s.sequencer.map[n] := by cases q <;> rfl
    have hframe : (s.taken q.port).sequencer.frame = s.sequencer.frame := by cases q <;> rfl
    simp only [readSlotBody, slotOf_of_eq hn, hmap, hframe]
    refine congrArg (State.respond (s.taken q.port) q.port tag 0x13 .done) ?_
    refine congrArg₂ (· ++ ·) (congrArg₂ (· ++ ·) rfl ?_) ?_
    · cases s.sequencer.map[n].pending with
      | none => rfl
      | some k => cases k <;> rfl
    · simp only [flagByte, decide_eq_true_eq]

/-! ## Status, presence and attention (R172, R175, R178, R179) -/

theorem masterSlot_bytes_length (m : MasterSlot) : m.bytes.length = 4 := rfl

theorem statusBytes_length (s : State) : s.statusBytes.length = 39 := by
  unfold State.statusBytes
  simp only [List.length_append, masterSlot_bytes_length, u16_length, u32_length, List.length_cons, List.length_nil]

/-- Settles O17: STATUS keeps the state, and its bytes are the manual's. -/
theorem statusReturnsThePartWideState : Obligations.StatusReturnsThePartWideState := by
  intro s p tag hcan slot bytes
  have hslot : ∀ m : Fin 4, (s.masters[m]).bytes = slot m := by
    intro m
    simp only [slot]
    cases s.masters[m] <;> rfl
  have hbytes : s.statusBytes = bytes := by
    unfold State.statusBytes
    rw [hslot, hslot, hslot, hslot]
    rfl
  refine ⟨hbytes ▸ statusBytes_length s, ?_⟩
  have htaken : (s.taken p).statusBytes = s.statusBytes := by cases p <;> rfl
  have hjudge : (s.taken p).judge p 0x70 statusBody = statusBody (s.taken p) := by
    rw [State.judge, if_neg (by cases p <;> decide), if_neg (by simp [inStartup])]
  refine congrArg _ ((taking_of statusBody hcan).trans ?_)
  rw [hjudge, statusBody, htaken, hbytes]
  rfl

/-- Bits 3 to 7 of a mask are clear exactly when it is below 8 (R178). -/
theorem mask_and_eq_zero_iff (mask : Byte) : mask &&& 0xF8 = 0 ↔ mask.toNat < 8 := by
  constructor
  · intro h
    refine Nat.lt_pow_two_of_testBit (n := 3) _ fun i hi => ?_
    change mask.getLsbD i = false
    by_cases h8 : i < 8
    · have hbit := congrArg (fun b : Byte => b.getLsbD i) h
      interval_cases i <;> simpa using hbit
    · exact BitVec.getLsbD_of_ge mask i (by omega)
  · intro h
    refine BitVec.eq_of_getLsbD_eq fun i hi => ?_
    by_cases h3 : i < 3
    · interval_cases i <;> simp
    · have hpow : 2 ^ 3 ≤ 2 ^ i := Nat.pow_le_pow_right (by decide) (by omega)
      have hbit : mask.getLsbD i = false := Nat.testBit_lt_two_pow (h.trans_le hpow)
      simp [hbit]

/-- Settles O18: the three bodies; CLEAR_STARTUP is judged as in the startup condition. -/
theorem portCommandsComplete : Obligations.PortCommandsComplete := by
  refine fun s p tag mask => ⟨fun hcan => ?_, fun hstartup hcan => ?_, fun hstartup hcan => ⟨fun hmask => ?_,
    fun hmask => ?_⟩⟩
  · have hjudge : (s.taken p).judge p 0x71 clearStartupBody = clearStartupBody (s.taken p) := by
      rw [State.judge, if_neg (by cases p <;> decide), if_neg (by simp [inStartup])]
    refine congrArg _ ((taking_of clearStartupBody hcan).trans ?_)
    rw [hjudge]
    rfl
  · exact congrArg _ (taking_of_admitted presentBody hcan (by cases p <;> rfl) hstartup)
  · refine congrArg _ ((taking_of_admitted _ hcan (by cases p <;> rfl) hstartup).trans ?_)
    rw [setAttentionBody, if_neg (Nat.not_le.mpr ((mask_and_eq_zero_iff mask).mp hmask))]
  · refine congrArg _ ((taking_of_admitted _ hcan (by cases p <;> rfl) hstartup).trans ?_)
    rw [setAttentionBody, if_pos (Nat.not_lt.mp (mt (mask_and_eq_zero_iff mask).mpr hmask))] <;> rfl

/-- Settles O19: the three conditions, each with its mask bit. -/
theorem attentionFollowsConditionsAndMask : Obligations.AttentionFollowsConditionsAndMask := by
  intro s p
  have hinbound : s.inboundCondition p = true ↔ (p = .a ∧ s.inboundA ≠ []) ∨ (p = .b ∧ s.inboundB ≠ []) := by
    cases p <;> simp [State.inboundCondition, serviceOf, State.inbound]
  have hfault : s.faultCondition p = true ↔
      ∃ r ∈ s.log.records, (r.number.toNat + 4294967296 - (s.link p).cursor.toNat) % 4294967296 < 2147483648 := by
    simp only [State.faultCondition, List.any_eq_true, unread_eq, decide_eq_true_eq]
  rw [State.attention, Bool.or_eq_true, Bool.or_eq_true, Bool.and_eq_true, Bool.and_eq_true, Bool.and_eq_true, hinbound,
    hfault, or_assoc, and_comm, and_comm (a := ∃ r ∈ _, _), and_comm (a := s.startup = true)]

end Sys2Proof.Machine
end

section
/-! PROOFS. The receive window's tables, and that no sequence is accepted twice (R66, R68, R77). -/

namespace Sys2Proof.Machine

/-! ## The tables, a lemma for each row -/

theorem preCheck_of_none {w : Window} (h : w.high = none) (j q : Nat) : w.preCheck j q = .acceptable := by
  rw [Window.preCheck, h]

theorem accept_of_none {w : Window} (h : w.high = none) (q : Nat) : w.accept q = { high := some q, seen := [q] } := by
  rw [Window.accept, h]

theorem preCheck_of_ahead {w : Window} {h q : Nat} (hw : w.high = some h) (hq : h < q) (j : Nat) :
    w.preCheck j q = if j < q - h then .jump else .acceptable := by
  simp only [Window.preCheck, hw, if_pos hq]

theorem preCheck_of_behind {w : Window} {h q : Nat} (hw : w.high = some h) (hq : q ≤ h) (j : Nat) :
    w.preCheck j q = if 64 ≤ h - q then .stale else if q ∈ w.seen then .duplicate else .acceptable := by
  simp only [Window.preCheck, hw, if_neg (Nat.not_lt.mpr hq)]

theorem accept_of_ahead {w : Window} {h q : Nat} (hw : w.high = some h) (hq : h < q) :
    (w.accept q).high = some q ∧ ∀ x, x ∈ (w.accept q).seen ↔ x = q ∨ (x ∈ w.seen ∧ q - x < 64) := by
  simp [Window.accept, hw, if_pos hq]

theorem accept_of_behind {w : Window} {h q : Nat} (hw : w.high = some h) (hq : q ≤ h) :
    (w.accept q).high = some h ∧ ∀ x, x ∈ (w.accept q).seen ↔ x = q ∨ x ∈ w.seen := by
  simp [Window.accept, hw, if_neg (Nat.not_lt.mpr hq), mem_insertFalling]

/-- A MARK beyond what the window holds re-anchors it full (R77). -/
theorem anchor_of_beyond {w : Window} {m : Nat} (hm : 0 < m) (h : ∀ g, w.high = some g → g < m - 1) :
    (w.anchor m).high = some (m - 1) ∧ ∀ x, x ∈ (w.anchor m).seen ↔ x ≤ m - 1 ∧ m - 1 - x < 64 := by
  rw [Window.anchor, if_neg hm.ne']
  cases hg : w.high with
  | none => exact ⟨rfl, fun _ => mem_fullSeen⟩
  | some g =>
    simp only [if_pos (h g hg), true_and]
    exact fun _ => mem_fullSeen

theorem anchor_of_within {w : Window} {h m : Nat} (hw : w.high = some h) (hm : m - 1 ≤ h) : w.anchor m = w := by
  simp only [Window.anchor, hw, if_neg (Nat.not_lt.mpr hm), ite_self]

/-- Settles O41: row by row. -/
theorem windowFollowsItsTables : Obligations.WindowFollowsItsTables := by
  refine fun w j q m => ⟨fun hnone => ⟨preCheck_of_none hnone j q, accept_of_none hnone q, fun hm =>
    anchor_of_beyond hm (by simp [hnone])⟩, fun h hw => ⟨fun hq => preCheck_of_ahead hw hq j, fun hq =>
    preCheck_of_behind hw hq j, fun hq => accept_of_ahead hw hq, fun hq => accept_of_behind hw hq, fun hm => ?_, fun hm =>
    anchor_of_within hw hm⟩, rfl⟩
  refine anchor_of_beyond (by omega) fun g hg => ?_
  obtain rfl : h = g := Option.some.inj (hw.symm.trans hg)
  exact hm

/-! ## No sequence is accepted twice -/

theorem Window.Spent.refused {w : Window} {q : Nat} (h : w.Spent q) (jump : Nat) :
    w.preCheck jump q = .stale ∨ w.preCheck jump q = .duplicate := by
  obtain ⟨g, hg, hle, hseen⟩ := h
  rw [preCheck_of_behind hg hle]
  by_cases h64 : 64 ≤ g - q
  · exact .inl (if_pos h64)
  · rw [if_neg h64, if_pos (hseen.resolve_left h64)]
    exact .inr rfl

theorem Window.spent_accept (w : Window) (q : Nat) : (w.accept q).Spent q := by
  cases hw : w.high with
  | none =>
    rw [accept_of_none hw]
    exact ⟨q, rfl, le_rfl, Or.inr List.mem_cons_self⟩
  | some h =>
    by_cases hq : h < q
    · obtain ⟨hhigh, hseen⟩ := accept_of_ahead hw hq
      exact ⟨q, hhigh, le_rfl, .inr ((hseen q).mpr (.inl rfl))⟩
    · obtain ⟨hhigh, hseen⟩ := accept_of_behind hw (Nat.not_lt.mp hq)
      exact ⟨h, hhigh, Nat.not_lt.mp hq, .inr ((hseen q).mpr (.inl rfl))⟩

theorem Window.Spent.accept {w : Window} {q : Nat} (h : w.Spent q) (x : Nat) : (w.accept x).Spent q := by
  obtain ⟨g, hg, hle, hmem⟩ := h
  by_cases hx : g < x
  · obtain ⟨hhigh, hseen⟩ := accept_of_ahead hg hx
    by_cases hd : x - q < 64
    · exact ⟨x, hhigh, by omega, .inr ((hseen q).mpr (.inr ⟨hmem.resolve_left (by omega), hd⟩))⟩
    · exact ⟨x, hhigh, by omega, .inl (Nat.not_lt.mp hd)⟩
  · obtain ⟨hhigh, hseen⟩ := accept_of_behind hg (Nat.not_lt.mp hx)
    exact ⟨g, hhigh, hle, hmem.imp_right fun hq => (hseen q).mpr (.inr hq)⟩

theorem Window.Spent.anchor {w : Window} {q : Nat} (h : w.Spent q) (m : Nat) : (w.anchor m).Spent q := by
  have ⟨g, hg, hle, _⟩ := h
  by_cases hm : g < m - 1
  · obtain ⟨hhigh, hseen⟩ := anchor_of_beyond (w := w) (m := m) (by omega) fun g' hg' => by
      obtain rfl : g = g' := Option.some.inj (hg.symm.trans hg')
      exact hm
    by_cases hd : m - 1 - q < 64
    · exact ⟨m - 1, hhigh, by omega, .inr ((hseen q).mpr ⟨by omega, hd⟩)⟩
    · exact ⟨m - 1, hhigh, by omega, .inl (Nat.not_lt.mp hd)⟩
  · rwa [anchor_of_within hg (Nat.not_lt.mp hm)]

/-- Settles O42: the windows fit and the sequence stays spent along the moves, by induction on them. -/
theorem noSequenceIsAcceptedTwice : Obligations.NoSequenceIsAcceptedTwice := by
  intro w j q moves hw hq
  suffices h : ∀ v : Window, v.Fits → v.Spent q →
      let after := moves.foldl
        (fun v move =>
          match move with
          | .inl x => if v.preCheck j x = .acceptable then v.accept x else v
          | .inr m => v.anchor m) v
      after.Fits ∧ ∀ jump : Nat, after.preCheck jump q = .stale ∨ after.preCheck jump q = .duplicate from
    h _ (hw.accept hq) (w.spent_accept q)
  induction moves with
  | nil => exact fun v hv hspent => ⟨hv, hspent.refused⟩
  | cons move moves ih =>
    intro v hv hspent
    cases move with
    | inl x =>
      by_cases hx : v.preCheck j x = .acceptable
      · have := ih _ (hv.accept hx) (hspent.accept x)
        simpa only [List.foldl_cons, if_pos hx] using this
      · have := ih _ hv hspent
        simpa only [List.foldl_cons, if_neg hx] using this
    | inr m => exact ih _ (hv.anchor m) (hspent.anchor m)

end Sys2Proof.Machine
end

section
/-! PROOFS. What the fault log makes of a fault: folding, appending, losing, and its turns (R153, R156 to R159, R163). -/

namespace Sys2Proof.Machine

/-! ## Folding (R157) -/

theorem folds_of_lost {log : FaultLog} (h : log.lost ≠ 0) (cursors : List (BitVec 32)) (f : FaultReport) :
    log.folds cursors f = false := by
  simp [FaultLog.folds, h]

theorem folds_iff {log : FaultLog} {front : List FaultRecord} {r : FaultRecord} (hr : log.records = front ++ [r])
    (cursors : List (BitVec 32)) (f : FaultReport) :
    log.folds cursors f = true ↔
      log.lost = 0 ∧ r.kind = f.kind ∧ r.kind ≠ .lost ∧ r.channel = f.channel ∧ r.port = f.port ∧
        ∀ c ∈ cursors, unread r.number c = true := by
  simp [FaultLog.folds, hr, and_assoc]

/-- Settles O26: the conditions are `folds_iff`, and the last record is the one that folding changes. -/
theorem repeatsFoldIntoTheNewestRecord : Obligations.RepeatsFoldIntoTheNewestRecord := by
  refine ⟨fun log cursors f hempty => by simp [FaultLog.folds, hempty], fun s c => ?_,
    fun log cursors stamp f front r hr => ⟨fun hfolds => ?_, folds_iff hr cursors f⟩⟩
  · simp only [presentCursors, List.mem_map, List.mem_filter]
    refine ⟨fun ⟨p, ⟨_, hp⟩, hc⟩ => ⟨p, hp, hc⟩, fun ⟨p, hp, hc⟩ => ⟨p, ⟨?_, hp⟩, hc⟩⟩
    cases p <;> simp
  · rw [FaultLog.accept, if_pos ((folds_iff hr cursors f).mpr hfolds), hr, List.dropLast_concat, List.getLast?_concat]
    simp [FaultRecord.fold, bump, min_comm]

/-! ## Room (R158) -/

theorem makeRoom_of_short {log : FaultLog} (h : log.records.length < 64) (cursors : List (BitVec 32)) :
    log.makeRoom cursors = some log := if_pos h

theorem makeRoom_of_read {log : FaultLog} {oldest : FaultRecord} {rest : List FaultRecord} {cursors : List (BitVec 32)}
    (hr : log.records = oldest :: rest) (hlen : rest.length = 63) (h : ∀ c ∈ cursors, unread oldest.number c = false) :
    log.makeRoom cursors = some { log with records := rest } := by
  have hany : cursors.any (unread oldest.number) = false := List.any_eq_false.mpr fun c hc => by simp [h c hc]
  simp [FaultLog.makeRoom, hr, hlen, hany, Config.logDepth]

theorem makeRoom_of_unread {log : FaultLog} {oldest : FaultRecord} {rest : List FaultRecord} {cursors : List (BitVec 32)}
    (hr : log.records = oldest :: rest) (hlen : rest.length = 63) (h : ∃ c ∈ cursors, unread oldest.number c = true) :
    log.makeRoom cursors = none := by
  have hany : cursors.any (unread oldest.number) = true := List.any_eq_true.mpr h
  simp [FaultLog.makeRoom, hr, hlen, hany, Config.logDepth]

/-! ## Appending, with the lost counter at 0 and above it (R159) -/

theorem accept_of_not_lost {log : FaultLog} {cursors : List (BitVec 32)} {f : FaultReport} (h : log.lost = 0)
    (hfolds : log.folds cursors f = false) (stamp : BitVec 32) :
    log.accept cursors stamp f = log.appendOrLose cursors stamp f := by
  rw [FaultLog.accept, if_neg (by simp [hfolds]), if_pos h]

theorem accept_of_lost_without_room {log : FaultLog} {cursors : List (BitVec 32)} (h : log.lost ≠ 0)
    (hroom : log.makeRoom cursors = none) (stamp : BitVec 32) (f : FaultReport) :
    log.accept cursors stamp f = { log with lost := min 65535 (log.lost + 1) } := by
  rw [FaultLog.accept, if_neg (by simp [folds_of_lost h]), if_neg h, hroom, bump, min_comm]

theorem accept_of_lost_with_room {log l : FaultLog} {cursors : List (BitVec 32)} (h : log.lost ≠ 0)
    (hroom : log.makeRoom cursors = some l) (stamp : BitVec 32) (f : FaultReport) :
    log.accept cursors stamp f =
      { l.append stamp (lostReport log.lost) with lost := 0 }.appendOrLose cursors stamp f := by
  rw [FaultLog.accept, if_neg (by simp [folds_of_lost h]), if_neg h, hroom]

theorem appendOrLose_of_room {log l : FaultLog} {cursors : List (BitVec 32)} (hroom : log.makeRoom cursors = some l)
    (stamp : BitVec 32) (f : FaultReport) : log.appendOrLose cursors stamp f = l.append stamp f := by
  rw [FaultLog.appendOrLose, hroom]

theorem appendOrLose_without_room {log : FaultLog} {cursors : List (BitVec 32)} (hroom : log.makeRoom cursors = none)
    (stamp : BitVec 32) (f : FaultReport) : log.appendOrLose cursors stamp f = { log with lost := 1 } := by
  rw [FaultLog.appendOrLose, hroom]

/-- A fault that does not fold into a log without losses takes the room, or is the first one lost. -/
theorem accept_without_losses (log : FaultLog) (cursors : List (BitVec 32)) (stamp : BitVec 32) (f : FaultReport)
    (hlost : log.lost = 0) (hfolds : log.folds cursors f = false) :
    (log.records.length < 64 → log.accept cursors stamp f = { log.append stamp f with lost := 0 }) ∧
    (∀ (oldest : FaultRecord) (rest : List FaultRecord), log.records = oldest :: rest → rest.length = 63 →
      ((∀ c ∈ cursors, unread oldest.number c = false) →
        log.accept cursors stamp f = { { log with records := rest }.append stamp f with lost := 0 }) ∧
      ((∃ c ∈ cursors, unread oldest.number c = true) → log.accept cursors stamp f = { log with lost := 1 })) := by
  rw [accept_of_not_lost hlost hfolds]
  refine ⟨fun hlen => ?_, fun oldest rest hr hlen => ⟨fun hread => ?_, fun hunread => ?_⟩⟩
  · rw [appendOrLose_of_room (makeRoom_of_short hlen cursors)]
    simp only [FaultLog.append, hlost]
  · rw [appendOrLose_of_room (makeRoom_of_read hr hlen hread)]
    simp only [FaultLog.append, hlost]
  · rw [appendOrLose_without_room (makeRoom_of_unread hr hlen hunread)]

/-- A fault that the log takes with losses counted has the LOST record go before it, where there is room. -/
theorem accept_with_losses (log : FaultLog) (cursors : List (BitVec 32)) (stamp : BitVec 32) (f : FaultReport)
    (hlost : log.lost ≠ 0) :
    let lostRecord : FaultRecord :=
      { number := log.next, kind := .lost, channel := none, port := none, stamp := stamp,
        detail := BitVec.ofNat 16 log.lost, repeats := 1 }
    let record : FaultRecord :=
      { number := log.next + 1, kind := f.kind, channel := f.channel, port := f.port, stamp := stamp,
        detail := f.detail, repeats := 1 }
    (log.records.length < 63 → log.accept cursors stamp f =
      { log with records := log.records ++ [lostRecord, record], next := log.next + 1 + 1, lost := 0 }) ∧
    (∀ (r1 r2 : FaultRecord) (rest : List FaultRecord), log.records = r1 :: r2 :: rest → rest.length = 62 →
      ((∃ c ∈ cursors, unread r1.number c = true) →
        log.accept cursors stamp f = { log with lost := min 65535 (log.lost + 1) }) ∧
      ((∀ c ∈ cursors, unread r1.number c = false) → (∃ c ∈ cursors, unread r2.number c = true) →
        log.accept cursors stamp f =
          { log with records := r2 :: rest ++ [lostRecord], next := log.next + 1, lost := 1 }) ∧
      ((∀ c ∈ cursors, unread r1.number c = false) → (∀ c ∈ cursors, unread r2.number c = false) →
        log.accept cursors stamp f =
          { log with records := rest ++ [lostRecord, record], next := log.next + 1 + 1, lost := 0 })) ∧
    (∀ (r1 : FaultRecord) (rest : List FaultRecord), log.records = r1 :: rest → rest.length = 62 →
      ((∀ c ∈ cursors, unread r1.number c = false) →
        log.accept cursors stamp f =
          { log with records := rest ++ [lostRecord, record], next := log.next + 1 + 1, lost := 0 }) ∧
      ((∃ c ∈ cursors, unread r1.number c = true) →
        log.accept cursors stamp f =
          { log with records := r1 :: rest ++ [lostRecord], next := log.next + 1, lost := 1 })) := by
  intro lostRecord record
  refine ⟨fun hlen => ?_, fun r1 r2 rest hr hlen => ⟨fun h1 => ?_, fun h1 h2 => ?_, fun h1 h2 => ?_⟩,
    fun r1 rest hr hlen => ⟨fun h1 => ?_, fun h1 => ?_⟩⟩
  · rw [accept_of_lost_with_room hlost (makeRoom_of_short (by omega) cursors),
      appendOrLose_of_room (makeRoom_of_short (by simp [FaultLog.append]; omega) cursors)]
    simp [FaultLog.append, lostReport, lostRecord, record]
  · exact accept_of_lost_without_room hlost (makeRoom_of_unread hr (by simp [hlen]) h1) stamp f
  · rw [accept_of_lost_with_room hlost (makeRoom_of_read hr (by simp [hlen]) h1),
      appendOrLose_without_room (makeRoom_of_unread (oldest := r2) (rest := rest ++ [lostRecord]) rfl (by simp [hlen]) h2)]
    rfl
  · rw [accept_of_lost_with_room hlost (makeRoom_of_read hr (by simp [hlen]) h1),
      appendOrLose_of_room (makeRoom_of_read (oldest := r2) (rest := rest ++ [lostRecord]) rfl (by simp [hlen]) h2)]
    simp [FaultLog.append, record]
  · rw [accept_of_lost_with_room hlost (makeRoom_of_short (by simp [hr, hlen]) cursors),
      appendOrLose_of_room (makeRoom_of_read (oldest := r1) (rest := rest ++ [lostRecord])
        (by simp [FaultLog.append, hr, lostReport, lostRecord]) (by simp [hlen]) h1)]
    simp [FaultLog.append, record]
  · rw [accept_of_lost_with_room hlost (makeRoom_of_short (by simp [hr, hlen]) cursors),
      appendOrLose_without_room (makeRoom_of_unread (oldest := r1) (rest := rest ++ [lostRecord])
        (by simp [FaultLog.append, hr, lostReport, lostRecord]) (by simp [hlen]) h1)]
    simp [FaultLog.append, hr, lostReport, lostRecord]

/-! ## Turns (R156, R163) -/

/-- The port of a PORT_ABSENT is judged ABSENT and that of a PORT_RETURNED PRESENT; cursors are as they stand. -/
theorem asJudged_eq (link : Port → PortLink) (f : FaultReport) (p : Port) :
    asJudged link f p =
      { link p with
        present :=
          if f.kind = .portAbsent ∧ f.port = some p then false
          else if f.kind = .portReturned ∧ f.port = some p then true
          else (link p).present } := by
  unfold asJudged
  by_cases hp : f.port = some p
  · cases hk : f.kind <;> simp [hp]
  · simp [hp]

theorem presentCursors_asJudged (link : Port → PortLink) (f : FaultReport) :
    presentCursors (asJudged link f) =
      (([.a, .b, .k] : List Port).filter (fun p =>
        if f.kind = .portAbsent ∧ f.port = some p then false
        else if f.kind = .portReturned ∧ f.port = some p then true
        else (link p).present)).map (fun p => (link p).cursor) := by
  simp only [presentCursors, asJudged_eq]

/-- The log takes the waiting fault at a place, unless an earlier one of its event waits (R156). -/
theorem takeFault_eq (log : FaultLog) (link : Port → PortLink) {i : Nat} {f : RaisedFault} (hf : log.waiting[i]? = some f) :
    log.takeFault link i =
      if ∃ e ∈ log.waiting.take i, e.event = f.event then log
      else
        { log with waiting := log.waiting.eraseIdx i }.accept (presentCursors (asJudged link f.report)) f.stamp
          (log.asTaken link f.report) := by
  simp only [FaultLog.takeFault, hf, List.any_eq_true, decide_eq_true_eq]

/-- Settles O27: the turn by `takeFault_eq`, the rest by whether losses are counted. -/
theorem faultsAreAppendedOrLost : Obligations.FaultsAreAppendedOrLost := by
  refine ⟨?_, fun log cursors stamp f hlost hfolds => ?_, fun log cursors stamp f hlost =>
    accept_with_losses log cursors stamp f hlost⟩
  · intro s judgedPresent cursors asTaken takes turn
    have hcursors : ∀ f, presentCursors (asJudged s.link f) = cursors f := fun f => presentCursors_asJudged s.link f
    have hasTaken : ∀ (log : FaultLog) f, log.asTaken s.link f = asTaken log f := by
      intro log f
      simp only [FaultLog.asTaken, asTaken]
      cases f.kind <;> cases f.port <;> rfl
    have htakes : ∀ (log : FaultLog) (i : Nat), log.takeFault s.link i = takes log i := by
      intro log i
      simp only [takes]
      cases hf : log.waiting[i]? with
      | none => simp only [FaultLog.takeFault, hf]
      | some f => rw [takeFault_eq log s.link hf, hcursors, hasTaken]
    have hturn : ∀ log : FaultLog, log.turn s.link = turn log := by
      intro log
      cases hturns : log.turns <;> simp only [FaultLog.turn, turn, hturns, htakes]
    refine ⟨hturn, fun kind channel port detail => ⟨?_, fun event => rfl, fun hwaiting hturns => ?_⟩⟩
    · rw [← hturn]
      rfl
    · rw [raise_at_once s kind channel port detail hwaiting hturns, hcursors, hasTaken]
  · obtain ⟨hshort, hfull⟩ := accept_without_losses log cursors stamp f hlost hfolds
    exact ⟨hshort, hfull⟩

end Sys2Proof.Machine
end

section
/-! PROOFS. Frames that arrive, and the resets (R164, R167, R173, R180). -/

namespace Sys2Proof.Machine

/-! ## Frame arrival (R167, R173) -/

theorem bump_eq (n : Nat) : bump n = min 65535 (n + 1) := by
  rw [bump, min_comm]

/-- A well-formed frame on a link joins its queue, or is answered PORT_FULL (R167). -/
theorem enqueueFrame_eq (t : State) (p : Port) (code tag : Byte) (rest : List Byte) :
    t.enqueueFrame p (code :: tag :: rest) =
      if (t.link p).queue.length < 4 then
        t.setLink p { t.link p with queue := (t.link p).queue ++ [code :: tag :: rest] }
      else { t with responses := t.responses ++ [⟨p, [tag, code, 15, 0]⟩] } := rfl

/-- A refreshed link keeps its queue, and no response is made (R173). -/
theorem refreshPresence_keeps (s : State) (p : Port) :
    ((s.refreshPresence p).link p).queue = (s.link p).queue ∧ (s.refreshPresence p).responses = s.responses := by
  unfold State.refreshPresence
  split <;> simp

theorem refreshPresence_eq (s : State) (p : Port) :
    s.refreshPresence p =
      if (s.link p).present then s.setLink p { s.link p with present := true, timer := 0 }
      else (s.setLink p { s.link p with present := true, timer := 0 }).raise .portReturned none (some p)
        ((s.log.records.filter (fun r => unread r.number (s.link p).cursor)).length +
          (if s.log.lost ≠ 0 ∧ unread s.log.next (s.link p).cursor = true then 1 else 0)) := by
  simp only [State.refreshPresence, link_setLink_same, setLink_log]
  rfl

/-- Settles O28: a malformed frame is counted; a well-formed one refreshes presence and joins the queue. -/
theorem frameArrivalIsJudgedAtOnce : Obligations.FrameArrivalIsJudgedAtOnce := by
  intro s p bytes hline
  have hexec : exec (.frameArrival p bytes) s = .next (s.frameArrival p bytes) :=
    congrArg Host.Outcome.next (if_neg (by simp [hline]))
  refine ⟨fun hbad => ?_, fun code tag rest hbytes hgood => ?_⟩
  · rw [hexec, State.frameArrival, if_neg (by simp [hbad])]
    match bytes with
    | [] => simp only [State.malformed, bump_eq]
    | [_] => simp only [State.malformed, bump_eq]
    | code :: tag :: rest =>
      simp only [State.malformed, bump_eq]
      cases p <;> rfl
  · subst hbytes
    obtain ⟨hqueue, hresponses⟩ := refreshPresence_keeps s p
    rw [hexec, State.frameArrival, if_pos hgood, enqueueFrame_eq, hqueue, hresponses, refreshPresence_eq]

/-! ## Resets (R180) -/

/-- Every command row is a taking. -/
theorem exec_is_taking {i : Instr} {p : Port} {bytes : List Byte} (h : frameOf i = some (p, bytes)) :
    ∃ tag code params body, ∀ s, exec i s = .next (s.taking p tag code params body) := by
  obtain ⟨code, tag, params, rfl⟩ : ∃ code tag params, bytes = commandFrame code tag params := by
    unfold frameOf at h
    split at h
    all_goals first
      | exact ⟨_, _, _, (Prod.mk.inj (Option.some.inj h)).2.symm⟩
      | cases h
  obtain ⟨body, hexec⟩ := exec_of_frameOf h
  exact ⟨tag, code, params, body, hexec⟩

/-- After a RESET, and while the reset line is asserted, no taking is made (R180). -/
theorem taking_of_stopped {s : State} (h : s.resetLine = true ∨ s.halted = true) (p : Port) (tag code : Byte)
    (params : List Byte) (body : State → Answer) : s.taking p tag code params body = s := by
  have hcan : ¬ s.canTake p (commandFrame code tag params) = true := by
    rcases h with h | h <;> simp [State.canTake, h]
  rw [State.taking, if_neg hcan]

theorem whileRunning_of_line {s : State} (h : s.resetLine = true) (f : State → State) : s.whileRunning f = s := if_pos h

/-- An event of the part, or of its lines and its clock, is held while the reset line is asserted (R180). -/
theorem exec_event_of_line {s : State} (h : s.resetLine = true) {i : Instr} (hi : frameOf i = none)
    (h1 : i ≠ .resetLine) (h2 : i ≠ .resetLineRelease) (h3 : i ≠ .powerOn) : exec i s = .next s := by
  cases i with
  | resetLine => exact absurd rfl h1
  | resetLineRelease => exact absurd rfl h2
  | powerOn => exact absurd rfl h3
  | slotBoundary part => exact if_pos h
  | frameMarker order load => exact if_pos h
  | _ =>
    first
      | exact congrArg Host.Outcome.next (whileRunning_of_line h _)
      | cases hi

/-- Settles O29: the values of power-on are those of the model's reset state. -/
theorem resetsGiveTheirValues : Obligations.ResetsGiveTheirValues := by
  unfold Obligations.ResetsGiveTheirValues
  intro closed link fresh
  have hwarm : ∀ s : State, s.warmReset = fresh s s.masters s.resetLine := fun s => rfl
  refine ⟨fun s tag hline => ⟨fun hcan => ⟨?_, fun i p bytes t hi hhalted => ?_⟩, fun hhalted => ?_⟩,
    fun s => ⟨rfl, rfl, rfl, fun hline i h1 h2 h3 => ?_⟩⟩
  · have hjudge : (s.taken .k).judge .k 0x7F resetBody = resetBody (s.taken .k) := by
      rw [State.judge, if_neg (by decide), if_neg (by simp [inStartup])]
    refine congrArg _ ((taking_of resetBody hcan).trans ?_)
    rw [hjudge]
    rfl
  · obtain ⟨tag', code, params, body, hexec⟩ := exec_is_taking hi
    rw [hexec, taking_of_stopped (.inr hhalted)]
  · have hrun : exec .warmReset s = .next (if s.halted then s.warmReset else s) :=
      congrArg Host.Outcome.next (if_neg (by simp [hline]))
    rw [hrun, if_pos hhalted, hwarm, hline]
  · cases hi : frameOf i with
    | none => exact exec_event_of_line hline hi h1 h2 h3
    | some pair =>
      obtain ⟨tag', code, params, body, hexec⟩ := exec_is_taking (p := pair.1) (bytes := pair.2) hi
      rw [hexec, taking_of_stopped (.inl hline)]

end Sys2Proof.Machine
end

section
/-! PROOFS. Beats, the loss of the trunk, and frame markers (R26, R27, R30 to R36). -/

namespace Sys2Proof.Machine

/-! ## Beats and the loss of the trunk (R26, R34) -/

theorem exec_phaseUnit {s : State} (h : s.resetLine = false) (order : List TickWork) :
    exec (.phaseUnit order) s = .next (s.phaseUnit order) := congrArg Host.Outcome.next (if_neg (by simp [h]))

theorem exec_beat {s : State} (h : s.resetLine = false) (order : List TickWork) :
    exec (.beat order) s = .next (s.wrap order) := congrArg Host.Outcome.next (if_neg (by simp [h]))

theorem exec_trunkLoss {s : State} (h : s.resetLine = false) : exec .trunkLoss s = .next s.judgeLoss :=
  congrArg Host.Outcome.next (if_neg (by simp [h]))

theorem judgeLoss_of_not_due {s : State} (h : s.timebase.trunk = .lost ∨ s.timebase.beats < s.sequencer.frame.loss) :
    s.judgeLoss = s := by
  have hdue : ¬ s.lossDue = true := by
    rcases h with h | h <;> simp [State.lossDue, h]
  rw [State.judgeLoss, if_neg hdue]

theorem judgeLoss_of_acquiring {s : State} (h : s.timebase.trunk = .acquiring)
    (hbeats : s.sequencer.frame.loss ≤ s.timebase.beats) : s.judgeLoss = s.loseTrunk := by
  rw [State.judgeLoss, if_pos (by simp [State.lossDue, h, hbeats]), if_neg (by simp [h])]

theorem judgeLoss_of_locked {s : State} (h : s.timebase.trunk = .locked)
    (hbeats : s.sequencer.frame.loss ≤ s.timebase.beats) :
    s.judgeLoss = s.loseTrunk.raise .trunkLost none none s.sequencer.frame.loss := by
  rw [State.judgeLoss, if_pos (by simp [State.lossDue, h, hbeats]), if_pos h]

theorem beatTick_of_not_locked {s : State} (h : s.timebase.trunk ≠ .locked) (order : List TickWork) :
    s.beatTick order = s.tick .beat order := if_neg h

/-- Settles O30: by the trunk state and the beats since the marker. -/
theorem beatsMakeTicksAndLoseTheTrunk : Obligations.BeatsMakeTicksAndLoseTheTrunk := by
  intro s order hline loss beats u lost
  rw [exec_phaseUnit hline, exec_beat hline, exec_trunkLoss hline]
  have hwrap : s.wrap order = (u.judgeLoss).beatTick order := rfl
  refine ⟨fun hphase => ?_, fun hphase => ?_, fun htrunk => ?_, fun htrunk => ?_, fun htrunk hbeats => ?_,
    fun htrunk hbeats => ?_, fun h => ?_, fun htrunk hbeats => ?_, fun htrunk hbeats => ?_⟩
  · rw [State.phaseUnit, if_pos hphase]
  · rw [State.phaseUnit, if_neg (Nat.not_lt.mpr hphase)]
  · rw [hwrap, judgeLoss_of_not_due (s := u) (.inl htrunk), beatTick_of_not_locked (by simp [u, htrunk])]
  · rw [hwrap]
    split
    next hbeats =>
      rw [judgeLoss_of_acquiring (s := u) htrunk hbeats, beatTick_of_not_locked (by simp [State.loseTrunk])]
      rfl
    next hbeats =>
      rw [judgeLoss_of_not_due (s := u) (.inr (Nat.not_le.mp hbeats)), beatTick_of_not_locked (by simp [u, htrunk])]
  · rw [hwrap, judgeLoss_of_not_due (s := u) (.inr hbeats), State.beatTick, if_pos htrunk]
  · rw [hwrap, judgeLoss_of_locked (s := u) htrunk hbeats, beatTick_of_not_locked (by simp [State.loseTrunk])]
    rfl
  · rw [judgeLoss_of_not_due h]
  · rw [judgeLoss_of_acquiring htrunk hbeats]
    rfl
  · rw [judgeLoss_of_locked htrunk hbeats]
    rfl

/-! ## Load events, taken once (R36) -/

/-- A load event keeps the sequencer and the reset line. -/
theorem loadEvent_keeps {s t : State} {k : SlotKind} (h : s.loadEvent k = some t) :
    t.sequencer = s.sequencer ∧ t.resetLine = s.resetLine := by
  obtain ⟨c, hc⟩ := loadEvent_only h
  exact ⟨hc.sequencer, hc.resetLine⟩

/-- Once the load event of the slot in progress is taken, none is to be taken. -/
theorem takeDueLoad_takeDueLoad {s t : State} (h : s.takeDueLoad = some t) :
    t.takeDueLoad = some t ∧ t.resetLine = s.resetLine := by
  rcases takeDueLoad_cases h with ⟨hdue, rfl⟩ | ⟨k, -, -, hload⟩
  · exact ⟨h, rfl⟩
  · obtain ⟨hsequencer, hline⟩ := loadEvent_keeps hload
    exact ⟨takeDueLoad_of_not_due (by rw [hsequencer]; rfl), hline⟩

theorem exec_slotBoundary {s : State} (h : s.resetLine = false) (load : LoadTime) :
    exec (.slotBoundary (.boundary load)) s = outcomeOf (s.takeDueLoad.bind (fun t => t.nextSlot.beginSlot load)) :=
  if_neg (by simp [h])

theorem exec_slotLoad {s : State} (h : s.resetLine = false) :
    exec (.slotBoundary .load) s = outcomeOf s.takeDueLoad := if_neg (by simp [h])

theorem exec_frameMarker {s : State} (h : s.resetLine = false) (order : List TickWork) (load : LoadTime) :
    exec (.frameMarker order load) s = outcomeOf (s.takeDueLoad.bind (fun t => (t.marker order).beginSlot load)) :=
  if_neg (by simp [h])

/-- The load event of the slot in progress comes before a boundary or a marker, and is not taken again with it. -/
theorem takeDueLoad_of_exec_slotLoad {s t : State} (hline : s.resetLine = false)
    (h : exec (.slotBoundary .load) s = .next t) :
    s.takeDueLoad = some t ∧ t.takeDueLoad = some t ∧ t.resetLine = false := by
  rw [exec_slotLoad hline, outcomeOf_eq_next] at h
  obtain ⟨htwice, hkept⟩ := takeDueLoad_takeDueLoad h
  exact ⟨h, htwice, hkept.trans hline⟩

/-! ## Slots that are not served, and slot 0 (R36, R37) -/

theorem servedEntry_of_not_locked {s : State} (h : s.timebase.trunk ≠ .locked) : s.servedEntry = none :=
  if_neg fun hserved => h hserved.1

theorem servedEntry_of_beyond {s : State} (h : s.sequencer.frame.slots ≤ s.sequencer.slot) : s.servedEntry = none :=
  if_neg fun hserved => absurd hserved.2 (Nat.not_lt.mpr h)

/-- While the trunk is not LOCKED every slot is given IDLE (R37). -/
theorem beginSlot_of_not_locked {s : State} (h : s.timebase.trunk ≠ .locked) (load : LoadTime) :
    s.beginSlot load = some { s.keep none with lineOut := some idleCell } := by
  rw [beginSlot_of_unserved load (servedEntry_of_not_locked h), State.unservedOut, if_neg h]

/-- A CONTROL slot with nothing pending is given IDLE (R127). -/
theorem loadControl_of_empty {s : State} (h : ∀ c, (s.chan c).pendingCells = []) :
    s.loadControl = some { s with lineOut := some idleCell } := by
  have hchosen : s.chosenChannel = none := List.find?_eq_none.mpr fun c _ => by simp [h]
  simp only [State.loadControl, hchosen]

theorem beginSlot_later_of_served {s : State} {k : SlotKind} (h : s.servedEntry = some k) :
    s.beginSlot .later =
      some { s with sequencer := { s.sequencer with kept := some k, loadDue := true }, lineOut := none } := by
  simp only [State.beginSlot, State.openSlot, h]

/-- A marker whose slot 0 is served begins the frame by that slot's entry. -/
theorem beginsFrame_of_served {t : State} (h : t.servedEntry = some t.sequencer.map[(0 : Fin 64)].inForce)
    (load : LoadTime) : t.beginsFrame load (outcomeOf (t.beginSlot load)) := by
  cases load with
  | later =>
    rw [beginSlot_later_of_served h]
    unfold State.beginsFrame
    rfl
  | now =>
    rw [beginSlot_now_of_served h]
    unfold State.beginsFrame
    dsimp only
    cases t.sequencer.map[(0 : Fin 64)].inForce with
    | unused => rfl
    | data c => rfl
    | control =>
      refine ⟨fun hempty => ?_, fun u hu => ?_⟩
      · show outcomeOf (t.keep (some .control)).loadControl = _
        rw [loadControl_of_empty (s := t.keep (some .control)) hempty]
        rfl
      · show outcomeOf (t.keep (some .control)).loadControl = _
        rw [hu]
        rfl

/-- After the tick of a marker on a LOCKED trunk, slot 0 is served. -/
theorem servedEntry_of_marker {v : State} {order : List TickWork} (hlocked : v.timebase.trunk = .locked)
    (hslot : v.sequencer.slot = 0) (hframe : v.sequencer.frame.InRange)
    (hpending : ∀ f, v.sequencer.pendingFrame = some f → f.InRange) :
    (v.tick .marker order).servedEntry = some (v.tick .marker order).sequencer.map[(0 : Fin 64)].inForce := by
  have hslots : 0 < (v.tick .marker order).sequencer.frame.slots := by
    rw [tick_sequencer]
    show 0 < (v.sequencer.pendingFrame.getD v.sequencer.frame).slots
    cases hp : v.sequencer.pendingFrame with
    | none => exact Nat.lt_of_lt_of_le (by decide) hframe.1
    | some f => exact Nat.lt_of_lt_of_le (by decide) (hpending f hp).1
  have hzero : (v.tick .marker order).sequencer.slot = 0 := by rw [tick_sequencer]; exact hslot
  rw [State.servedEntry, if_pos ⟨by rw [tick_timebase]; exact hlocked, by rw [hzero]; exact hslots⟩, hzero]
  rfl

/-! ## Markers (R30 to R33) -/

theorem marker_eq (s : State) (order : List TickWork) :
    s.marker order =
      let deviation := min s.timebase.phase (s.sequencer.frame.beatLen - s.timebase.phase)
      ((s.judgeMarker deviation).restartFrame deviation).tick
        ((s.judgeMarker deviation).restartFrame deviation).markerKind order := rfl

/-- A marker that leaves the trunk ACQUIRING: a beat tick, and IDLE on the line. -/
theorem beginSlot_of_acquiring {s v : State} {order : List TickWork} {deviation : Nat} (load : LoadTime)
    (hdeviation : min s.timebase.phase (s.sequencer.frame.beatLen - s.timebase.phase) = deviation)
    (hv : s.judgeMarker deviation = v) (htrunk : v.timebase.trunk = .acquiring) :
    (s.marker order).beginSlot load =
      some { ((v.restartFrame deviation).tick .beat order).keep none with lineOut := some idleCell } := by
  subst hdeviation hv
  have hkind : ((s.judgeMarker (min s.timebase.phase (s.sequencer.frame.beatLen - s.timebase.phase))).restartFrame
      (min s.timebase.phase (s.sequencer.frame.beatLen - s.timebase.phase))).markerKind = .beat :=
    if_neg (by rw [State.restartFrame]; simp [htrunk])
  rw [marker_eq]
  dsimp only
  rw [hkind, beginSlot_of_not_locked (by rw [tick_timebase, State.restartFrame]; simp [htrunk])]

/-- A marker that leaves the trunk LOCKED: a marker tick, and slot 0 begins. -/
theorem beginsFrame_of_locked {s v : State} {order : List TickWork} {deviation : Nat} (load : LoadTime)
    (hdeviation : min s.timebase.phase (s.sequencer.frame.beatLen - s.timebase.phase) = deviation)
    (hv : s.judgeMarker deviation = v) (htrunk : v.timebase.trunk = .locked) (hframe : v.sequencer.frame.InRange)
    (hpending : ∀ f, v.sequencer.pendingFrame = some f → f.InRange) :
    ((v.restartFrame deviation).tick .marker order).beginsFrame load (outcomeOf ((s.marker order).beginSlot load)) := by
  subst hdeviation hv
  have hkind : ((s.judgeMarker (min s.timebase.phase (s.sequencer.frame.beatLen - s.timebase.phase))).restartFrame
      (min s.timebase.phase (s.sequencer.frame.beatLen - s.timebase.phase))).markerKind = .marker :=
    if_pos (by rw [State.restartFrame]; simp [htrunk])
  rw [marker_eq]
  dsimp only
  rw [hkind]
  exact beginsFrame_of_served (servedEntry_of_marker (v := (s.judgeMarker _).restartFrame _) htrunk rfl hframe hpending) load

/-- Settles O31: by the trunk state, and whether the frame agrees. -/
theorem markersActByTheTrunkState : Obligations.MarkersActByTheTrunkState := by
  refine ⟨fun s t load order hline h => ?_, ?_⟩
  · obtain ⟨htake, htwice, hline'⟩ := takeDueLoad_of_exec_slotLoad hline h
    rw [exec_frameMarker hline, exec_frameMarker hline', htake, htwice]
  · intro s load order hline hdue hframe hpending frame deviation length restart acquiring
    rw [exec_frameMarker hline, takeDueLoad_of_not_due hdue, Option.bind_some]
    refine ⟨fun h => ?_, fun htrunk hlength hdev => ?_, fun htrunk => ?_⟩
    · have hjudge : s.judgeMarker deviation =
          { s with timebase := { s.timebase with trunk := .acquiring, acquire := 1 } } := by
        rcases h with htrunk | ⟨htrunk, hno⟩
        · simp only [State.judgeMarker, htrunk]
        · have hagrees : ¬ s.frameAgrees deviation = true := by
            simp only [State.frameAgrees, Bool.and_eq_true, decide_eq_true_eq, not_and_or, not_le]
            exact hno
          simp only [State.judgeMarker, htrunk, if_neg hagrees]
      rw [beginSlot_of_acquiring load rfl hjudge rfl]
      rfl
    · have hagrees : s.frameAgrees deviation = true := by
        simp only [State.frameAgrees, Bool.and_eq_true, decide_eq_true_eq]
        exact ⟨hlength, hdev⟩
      have hjudge : s.judgeMarker deviation =
          { s with timebase := { s.timebase with trunk := .locked, acquire := 2 } }.raise .trunkLocked none none
            frame.slots := by
        simp only [State.judgeMarker, htrunk, if_pos hagrees, frame]
      exact beginsFrame_of_locked load rfl hjudge rfl hframe hpending
    · intro framed slipped
      have hslipped : s.judgeLockedMarker deviation = slipped := rfl
      have hkept : slipped = { s with log := slipped.log } := hslipped ▸ judgeLockedMarker_eq s deviation
      refine beginsFrame_of_locked load rfl (v := slipped) ?_ (by rw [hkept]; exact htrunk) (by rw [hkept]; exact hframe)
        (by rw [hkept]; exact hpending)
      rw [← hslipped]
      simp only [State.judgeMarker, htrunk]

end Sys2Proof.Machine
end

section
/-! PROOFS. The load events of DATA and CONTROL slots (R20 to R22, R36, R37, R42, R57 to R59, R127, R128). -/

namespace Sys2Proof.Machine

/-! ## What a load event is taken on -/

theorem takesLoad_chan {s t : State} {part : SlotPart} {k : SlotKind} (h : s.takesLoad part k t) (d : Fin 48) :
    t.chan d = s.chan d := by
  rw [takesLoad_eq h]
  rfl

/-- SLOT_BOUNDARY takes the load event of its slot's entry, on the state before it. -/
theorem exec_of_takesLoad {s t u : State} {part : SlotPart} {k : SlotKind} (h : s.takesLoad part k t)
    (hu : t.loadEvent k = some u) : exec (.slotBoundary part) s = .next u := by
  have hexec : exec (.slotBoundary part) s = outcomeOf (t.loadEvent k) := execSlotBoundary_of_takesLoad h
  rw [hexec, hu]
  rfl

/-! ## DATA slots (R20 to R22) -/

theorem loadData_of_sending {t : State} {c : Fin 48} {e : CurrentEntry} (he : (t.chan c).current = some e)
    (hactive : (t.chan c).state = .active) (hheld : (t.chan c).held = false) :
    t.loadData c =
      ((({ t with lineOut := some ((t.chan c).nextCell e c) }).modChan c (·.afterSend e)).judgeHardLimit c).judgePreset
        c := by
  simp only [State.loadData, he, if_pos (And.intro hactive hheld)]

theorem loadData_of_silent {t : State} {c : Fin 48} (h : (t.chan c).state ≠ .active ∨ (t.chan c).held = true) :
    t.loadData c = { t with lineOut := some idleCell } := by
  have hno : ¬ ((t.chan c).state = .active ∧ (t.chan c).held = false) := by
    rintro ⟨hactive, hheld⟩
    rcases h with h | h
    · exact h hactive
    · simp [h] at hheld
  unfold State.loadData
  split
  · rw [if_neg hno]
  · rfl

/-- An ACTIVE channel that is not HELD is judged for the hard limit on its next tx sequence (R21). -/
theorem judgeHardLimit_of_active {u : State} {c : Fin 48} {e : CurrentEntry} (he : (u.chan c).current = some e)
    (hactive : (u.chan c).state = .active) (hheld : (u.chan c).held = false) :
    u.judgeHardLimit c =
      if e.nextTx = 16776960 then
        (u.modChan c (fun r => { r with held := true })).raise .hardLimit (some c) ((u.chan c).serving.map Service.port)
          e.key.epoch.toNat
      else u := by
  have hlimit : (u.chan c).atHardLimit = true ↔ e.nextTx = 16776960 := by
    rw [atHardLimit_iff]
    exact ⟨fun ⟨_, e', he', hn⟩ => Option.some.inj (he.symm.trans he') ▸ hn, fun hn => ⟨hactive, e, he, hn⟩⟩
  have hepoch : (u.chan c).currentEpoch = e.key.epoch.toNat := by rw [Channel.currentEpoch, he]
  unfold State.judgeHardLimit
  by_cases hn : e.nextTx = 16776960
  · rw [if_pos hn, if_pos (by simp [hlimit.mpr hn, hheld]), State.raiseFor, chan_modChan_same, hepoch]
  · rw [if_neg hn, if_neg (by simp [mt hlimit.mp hn])]

/-- An ACTIVE channel is judged for the PRESET trigger on its next tx sequence (R22). -/
theorem judgePreset_of_active {u : State} {c : Fin 48} {e : CurrentEntry} (he : (u.chan c).current = some e)
    (hactive : (u.chan c).state = .active) :
    u.judgePreset c = if (u.chan c).preset < e.nextTx then u.trigger c .preset else u := by
  simp only [State.judgePreset, hactive, Channel.presetReached, he, decide_true, Bool.true_and, decide_eq_true_eq]

/-- Settles O34: the cell leaves, the hard limit is judged, and then the preset. -/
theorem dataSlotSendsTheNextCell : Obligations.DataSlotSendsTheNextCell := by
  intro s t part c e hload hactive hheld he cell u v
  have hr := takesLoad_chan hload c
  have hu : u.chan c =
      { s.chan c with outbound := (s.chan c).outbound.tail, current := some { e with nextTx := e.nextTx + 1 } } := by
    rw [← hr]
    exact chan_modChan_same _ c _
  have hjudged : u.judgeHardLimit c = v := by
    rw [judgeHardLimit_of_active (e := { e with nextTx := e.nextTx + 1 }) (by rw [hu]) (by rw [hu]; exact hactive)
      (by rw [hu]; exact hheld), hu]
  have hv : (v.chan c).current = some { e with nextTx := e.nextTx + 1 } ∧ (v.chan c).state = .active ∧
      (v.chan c).preset = (s.chan c).preset := by
    simp only [v]
    split
    · simp [hu, hactive]
    · simp [hu, hactive]
  obtain ⟨hcurrent, hstate, hpreset⟩ := hv
  have hcell : (t.chan c).nextCell e c = cell := by
    rw [hr]
    rfl
  have hsent : t.loadData c = (u.judgeHardLimit c).judgePreset c := by
    rw [loadData_of_sending (by rw [hr, he]) (by rw [hr, hactive]) (by rw [hr, hheld]), hcell]
    rfl
  refine exec_of_takesLoad hload (congrArg some ?_)
  rw [hsent, hjudged, judgePreset_of_active hcurrent hstate, hpreset]

/-! ## Slots that send IDLE, or nothing (R36, R37, R42, R127) -/

theorem nextSlot_beginSlot_of_unserved {s : State} (load : LoadTime) (h : s.nextSlot.servedEntry = none) :
    s.nextSlot.beginSlot load = some { s.nextSlot.keep none with lineOut := s.unservedOut } :=
  beginSlot_of_unserved load h

theorem nextSlot_keep_none {s : State} (hdue : s.sequencer.loadDue = false) :
    s.nextSlot.keep none =
      { s with sequencer := { s.sequencer with slot := min 65535 (s.sequencer.slot + 1), kept := none } } := by
  simp only [State.keep, State.nextSlot, bump_eq, hdue]

/-- Settles O35: by whether the next slot is served, and by its entry. -/
theorem otherSlotsSendIdleOrNothing : Obligations.OtherSlotsSendIdleOrNothing := by
  intro s hline slot unserved
  refine ⟨fun load t h => ?_, fun load hdue => ⟨fun htrunk => ?_, fun htrunk hbeyond => ?_⟩, fun k hdue hnext => ?_,
    fun hdue => ?_, fun part t => ⟨fun h => exec_of_takesLoad h rfl, fun c h hsilent => ?_, fun h hempty => ?_⟩⟩
  · obtain ⟨htake, htwice, hline'⟩ := takeDueLoad_of_exec_slotLoad hline h
    rw [exec_slotBoundary hline, exec_slotBoundary hline', htake, htwice]
  · rw [exec_slotBoundary hline, takeDueLoad_of_not_due hdue, Option.bind_some,
      nextSlot_beginSlot_of_unserved load (servedEntry_of_not_locked htrunk), State.unservedOut, if_neg htrunk,
      nextSlot_keep_none hdue]
    rfl
  · have hbeyond' : s.nextSlot.sequencer.frame.slots ≤ s.nextSlot.sequencer.slot := by
      rw [nextSlot_slot, bump_eq]
      exact hbeyond
    rw [exec_slotBoundary hline, takeDueLoad_of_not_due hdue, Option.bind_some,
      nextSlot_beginSlot_of_unserved load (servedEntry_of_beyond hbeyond'), State.unservedOut, if_pos htrunk,
      nextSlot_keep_none hdue]
    rfl
  · obtain ⟨hserved, hnumber⟩ := servedEntry_nextSlot hnext
    rw [exec_slotBoundary hline, takeDueLoad_of_not_due hdue, Option.bind_some, beginSlot_later_of_served hserved, ← hnumber]
    rfl
  · rw [exec_slotLoad hline, takeDueLoad_of_not_due hdue]
    rfl
  · exact exec_of_takesLoad h (congrArg some (loadData_of_silent (by rwa [takesLoad_chan h c])))
  · exact exec_of_takesLoad h (loadControl_of_empty fun c => (congrArg _ (takesLoad_chan h c)).trans (hempty c))

/-! ## CONTROL slots (R127, R128) -/

/-- The load event that sends the oldest cell of the chosen channel, on the record as its entry leaves the list. -/
theorem exec_slotBoundary_control {s t : State} {part : SlotPart} {c : Fin 48} {x : ControlCell}
    {rest : List ControlCell} {cell : Cell} (hload : s.takesLoad part .control t)
    (hcells : (s.chan c).pendingCells = x :: rest)
    (hnearer : ∀ d, scanDistance s.lastChannel d < scanDistance s.lastChannel c → (s.chan d).pendingCells = [])
    (hcell : (s.chan c).formControl c x = some cell) :
    exec (.slotBoundary part) s =
      .next { t.modChan c (fun r => { r with pendingCells := rest }.sent x s.renewalParams) with
        lastChannel := c
        lineOut := some cell } := by
  have hchan := takesLoad_chan hload
  have hparams : t.renewalParams = s.renewalParams := by rw [takesLoad_eq hload]
  have hlast : t.lastChannel = s.lastChannel := by rw [takesLoad_eq hload]
  have hchosen : t.chosenChannel = some c :=
    chosenChannel_of_nearest (by simp [hchan, hcells]) (by simpa [hchan, hlast] using hnearer)
  refine exec_of_takesLoad hload ((loadControl_of_formed hchosen (by rw [hchan, hcells]) (by rw [hchan, hcell])).trans ?_)
  simp only [State.sendControl, State.modChan, hparams, hchan, hcells, List.tail_cons]

theorem formControl_offer {r : Channel} {key : KeyEntry} {shop : BitVec 32} (hkey : r.offerKey = some key)
    (hshop : r.shop = some shop) (c : Fin 48) (epoch : BitVec 8) (nonce : BitVec 64) :
    r.formControl c (.offer epoch nonce) = some (controlCell .offer key c (offerPayload epoch nonce shop)) := by
  simp only [Channel.formControl, hkey, hshop]

theorem offerKey_of {r : Channel} {key : KeyEntry}
    (h : if r.state = .keying then r.base = some key else ∃ e, r.current = some e ∧ e.key = key) :
    r.offerKey = some key := by
  unfold Channel.offerKey
  split_ifs at h ⊢
  · exact h
  · obtain ⟨e, he, rfl⟩ := h
    rw [he]
    rfl

/-- Settles O36: by the kind of the oldest cell. -/
theorem controlSlotSendsTheChosenCell : Obligations.ControlSlotSendsTheChosenCell := by
  intro s t part c x rest hload hcells hnearer send
  cases x with
  | offer epoch nonce =>
    intro key shop hshop hkey
    exact exec_slotBoundary_control hload hcells hnearer (formControl_offer (offerKey_of hkey) hshop c epoch nonce)
  | switch epoch => trivial
  | resync challenge =>
    intro e he
    exact exec_slotBoundary_control hload hcells hnearer (congrArg (Option.map _) he)
  | mark challenge =>
    intro e he
    exact exec_slotBoundary_control hload hcells hnearer (congrArg (Option.map _) he)

end Sys2Proof.Machine
end

section
/-! PROOFS. What becomes of a sound DATA or PAD cell in SYNC and SUSPENDED (R55, R66 to R69, R82, R83, R139, R145 to
R147). -/

namespace Sys2Proof.Machine

/-- The acceptance of a sound cell of an ACTIVE channel that places cells, by the pre-check of the selected window. -/
theorem exec_dataSlotArrival_of_selects {s : State} {c : Fin 48} {k : CellKind} {cell : Cell} {sel : Selection}
    (hslot : s.arrivesIn (.data c)) (hactive : (s.chan c).state = .active)
    (hsync : (s.chan c).sync = .sync ∨ (s.chan c).sync = .suspended) (hcell : isTraffic k c cell)
    (hsel : (s.chan c).Selects (headerEpochTag cell.header) sel) :
    exec (.dataSlotArrival (some cell)) s =
      .next (match sel.window.preCheck s.receive.jump (headerSequence cell.header).toNat with
        | .jump => (s.modChan c Channel.countJ).raiseSyncLoss c
        | .stale => s.modChan c Channel.countR
        | .duplicate => s.modChan c Channel.countR
        | .acceptable => s.checkTraffic c k sel cell) := by
  have hplacing : (s.chan c).sync.placing = true := by
    rcases hsync with h | h <;> rw [h] <;> rfl
  rw [exec_dataSlotArrival hslot, dataArrival_of_isTraffic hactive hcell, if_pos hplacing, State.acceptSound,
    select_of_selects hsel] <;> rfl

/-- The record after an acceptance (R68). -/
theorem accepted_eq (r : Channel) (sel : Selection) (q : Nat) :
    r.accepted sel q =
      { r with
        current := if sel.isCurrent then r.current.map (fun e => { e with window := sel.window.accept q }) else r.current
        previous :=
          if sel.isCurrent then r.previous else r.previous.map (fun e => { e with window := sel.window.accept q })
        syncLoss := 0
        quality := { r.quality with
          counts := { r.quality.counts with g := min 65535 (r.quality.counts.g + 1) }
          silence := if r.quality.silenceRunning then 0 else r.quality.silence } } := by
  unfold Channel.accepted Channel.setWindow Channel.countG
  cases sel.isCurrent <;> simp only [bump_eq, if_true, Bool.false_eq_true, if_false]

theorem deliver_of_room {s : State} {c : Fin 48} {o : Service} (ho : (s.chan c).serving = some o)
    (h : (s.inbound o).length < 32) (x : Delivered) : s.deliver c x = s.setInbound o (s.inbound o ++ [x]) := by
  simp only [State.deliver, ho]
  exact if_pos h

theorem deliver_of_full {s : State} {c : Fin 48} {o : Service} (ho : (s.chan c).serving = some o)
    (h : 32 ≤ (s.inbound o).length) (x : Delivered) :
    s.deliver c x = (s.modChan c Channel.countD).raise .inboundOverrun (some c) (some o.port) x.sequence := by
  simp only [State.deliver, ho]
  exact if_neg (Nat.not_lt.mpr h)

/-- Settles O39: the accepted record, then its disposal by kind, sync state and room. -/
theorem acceptedCellsAreDelivered : Obligations.AcceptedCellsAreDelivered := by
  intro s c k cell sel hslot hactive hsync hcell hsel hcheck htag q r counts accepted delivered
  have haccepted : s.modChan c (·.accepted sel q) = accepted counts := congrArg (s.setChan c) (accepted_eq _ _ _)
  have hrecord : (accepted counts).chan c = (s.chan c).accepted sel q := by rw [← haccepted, chan_modChan_same]
  have hinbound : ∀ o, (accepted counts).inbound o = s.inbound o := fun o => setChan_inbound ..
  have hcount : ∀ f : Counts → Counts, (accepted counts).modChan c (·.modCounts f) = accepted (f counts) := fun f => by
    simp only [State.modChan, accepted, chan_setChan_same, setChan_setChan]
    rfl
  have hexec : exec (.dataSlotArrival (some cell)) s = .next ((accepted counts).dispose c k delivered) := by
    rw [exec_dataSlotArrival_of_selects hslot hactive hsync hcell hsel, hcheck]
    dsimp only
    rw [State.checkTraffic, if_pos htag, haccepted]
    rfl
  rw [hexec]
  refine ⟨fun hk => ?_, fun hk hsuspended => ?_, fun o hk hs ho => ⟨fun hroom => ?_, fun hfull => ?_⟩⟩
  · rw [State.dispose, if_neg (by simp [hk])]
  · rw [State.dispose, if_pos hk, if_pos (by rw [hrecord, accepted_eq]; exact hsuspended)]
    show Host.Outcome.next ((accepted counts).modChan c (·.modCounts fun n => { n with withheld := bump n.withheld })) = _
    rw [hcount]
    simp only [bump_eq]
  · have hserving : ((accepted counts).chan c).serving = some o := by rw [hrecord, accepted_eq]; exact ho
    rw [State.dispose, if_pos hk, if_neg (by rw [hrecord, accepted_eq]; simp [r, hs]),
      deliver_of_room hserving (by rwa [hinbound]), hinbound]
  · have hserving : ((accepted counts).chan c).serving = some o := by rw [hrecord, accepted_eq]; exact ho
    rw [State.dispose, if_pos hk, if_neg (by rw [hrecord, accepted_eq]; simp [r, hs]),
      deliver_of_full hserving (by rwa [hinbound])]
    have hcounted : (accepted counts).modChan c Channel.countD =
        accepted { counts with d := min 65535 (counts.d + 1) } := by
      rw [← bump_eq]
      exact hcount fun n => { n with d := bump n.d }
    rw [hcounted]

theorem countJ_eq :
    Channel.countJ = fun r =>
      { r with quality := { r.quality with counts := { r.quality.counts with j := min 65535 (r.quality.counts.j + 1) } } } := by
  funext r
  rw [← bump_eq]
  rfl

theorem countR_eq :
    Channel.countR = fun r =>
      { r with quality := { r.quality with counts := { r.quality.counts with r := min 65535 (r.quality.counts.r + 1) } } } := by
  funext r
  rw [← bump_eq]
  rfl

/-- Settles O40: by the outcome of the pre-check, and the tag check of an acceptable cell. -/
theorem rejectedCellsAreCounted : Obligations.RejectedCellsAreCounted := by
  intro s c k cell sel hslot hactive hsync hcell hsel check count
  have hexec := exec_dataSlotArrival_of_selects hslot hactive hsync hcell hsel
  refine ⟨fun h => ?_, fun h => ?_, fun h htag => ?_⟩
  · rw [hexec, show sel.window.preCheck _ _ = .jump from h]
    simp only [countJ_eq, count]
  · rcases h with h | h
    · rw [hexec, show sel.window.preCheck _ _ = .stale from h]
      simp only [countR_eq, count]
    · rw [hexec, show sel.window.preCheck _ _ = .duplicate from h]
      simp only [countR_eq, count]
  · rw [hexec, show sel.window.preCheck _ _ = .acceptable from h]
    dsimp only
    rw [State.checkTraffic, if_neg (by simp [htag])]
    rfl

end Sys2Proof.Machine
end

section
/-! PROOFS. Sound control cells: an ACCEPT, judged and verified, and a REQUEST, RESYNC or MARK whose tag is valid (R77,
R81, R109, R110, R118, R132 to R136). -/

namespace Sys2Proof.Machine

theorem countStray_eq (s : State) : s.countStray = { s with stray := min 65535 (s.stray + 1) } := by
  rw [State.countStray, bump_eq]

theorem countG_eq (r : Channel) :
    r.countG =
      { r with
        quality := { r.quality with
          counts := { r.quality.counts with g := min 65535 (r.quality.counts.g + 1) }
          silence := if r.quality.silenceRunning then 0 else r.quality.silence } } := by
  rw [Channel.countG, bump_eq]

/-! ## ACCEPT (R109, R110) -/

theorem exec_accept {s : State} {c : Fin 48} {cell : Cell} (hslot : s.arrivesIn .control)
    (hcell : isControl .accept c cell) (hopen : (s.chan c).state ≠ .closed) :
    exec (.controlSlotArrival (some cell)) s = .next (s.judgeAccept c cell) := by
  have hsound : controlSound .accept cell.header = true := (controlSound_iff hcell.1).mpr ⟨rfl, hcell⟩
  rw [exec_controlSlotArrival hslot, controlArrival_of_namesChannel s hcell.1, if_neg hopen, State.routeControl,
    if_neg (by simp [hsound]), if_pos rfl]

theorem judgeAccept_of_offered {s : State} {c : Fin 48} {p : PendingEntry} (cell : Cell)
    (ht : (s.chan c).triggerable = true) (hr : (s.chan c).renewal = .offered) (hp : (s.chan c).pendingEntry = some p) :
    s.judgeAccept c cell = if acceptMatches p cell then s.verifyAccept c p cell else s.countStray := by
  rw [State.judgeAccept, if_neg (by simp [ht])]
  simp only [hr, hp]

theorem acceptMatches_iff {p : PendingEntry} {cell : Cell} :
    acceptMatches p cell = true ↔
      headerEpochTag cell.header = epochTag p.epoch ∧ acceptEpoch (cellPayload cell) = p.epoch ∧
        acceptPartNonce (cellPayload cell) = p.nonce ∧ acceptShopNonce (cellPayload cell) ≠ 0 := by
  simp only [acceptMatches, Bool.and_eq_true, decide_eq_true_eq, and_assoc]

theorem verifyAccept_of_bound {s : State} {c : Fin 48} {m : Fin 4} {key : Block} {check : BitVec 24} {shop : BitVec 32}
    (hm : (s.chan c).master = some m) (hkey : s.masters[m] = .loaded key check) (hshop : (s.chan c).shop = some shop)
    (p : PendingEntry) (cell : Cell) :
    s.verifyAccept c p cell =
      if tagValid (deriveEntry key c p.epoch shop p.nonce (acceptShopNonce (cellPayload cell))).keys.kTag cell then
        s.modChan c (fun r =>
          (r.agree p (deriveEntry key c p.epoch shop p.nonce (acceptShopNonce (cellPayload cell))).keys).countG)
      else s.countT c := by
  have hmaster : s.masterKey (s.chan c) = some key := by simp only [State.masterKey, hm, hkey]
  simp only [State.verifyAccept, State.acceptKeys, hmaster, hshop]

/-- Settles O44: the fields are judged, then the tag under the derived entry. -/
theorem acceptIsJudgedAndVerified : Obligations.AcceptIsJudgedAndVerified := by
  intro s c cell hslot hcell hopen stray r open'
  rw [exec_accept hslot hcell hopen]
  have hstray : s.countStray = stray := countStray_eq s
  have htriggerable : (s.chan c).triggerable = true ↔ open' := triggerable_iff _
  refine ⟨fun h => ?_, fun ho h => ?_, fun p ho hr hp => ?_⟩
  · rw [← hstray]
    rcases h with h | h
    · rw [State.judgeAccept, if_pos (by simpa using mt htriggerable.mp h)]
    · rw [State.judgeAccept, show (s.chan c).renewal = .idle from h]
      exact congrArg _ (ite_self _)
  · rw [State.judgeAccept, if_neg (by simp [htriggerable.mpr ho])]
    rcases h with h | h <;> rw [show (s.chan c).renewal = _ from h]
  · intro payload shopNonce fits
    have hfits : acceptMatches p cell = true ↔ fits := acceptMatches_iff
    rw [judgeAccept_of_offered cell (htriggerable.mpr ho) hr hp]
    refine ⟨fun hno => ?_, fun m key check shop hyes hm hkey hshop => ?_⟩
    · rw [if_neg (mt hfits.mp hno), hstray]
    · intro keys
      rw [if_pos (hfits.mpr hyes), verifyAccept_of_bound hm hkey hshop]
      refine ⟨fun htag => ?_, fun htag => ?_⟩
      · exact congrArg _ (if_neg (Bool.eq_false_iff.mp htag))
      · refine congrArg _ ((if_pos htag).trans ?_)
        simp only [countG_eq]
        rfl

/-! ## REQUEST, RESYNC and MARK (R77, R81, R118) -/

/-- A valid cell counts G and goes to its handler (R134, R135). -/
theorem exec_validControl {s : State} {c : Fin 48} {k : CellKind} {cell : Cell} {sel : Selection}
    (hslot : s.arrivesIn .control) (hk : k = .request ∨ k = .resync ∨ k = .mark) (hcell : isControl k c cell)
    (hactive : (s.chan c).state = .active) (hsel : (s.chan c).Selects (headerEpochTag cell.header) sel)
    (htag : tagValid sel.key.keys.kTag cell = true) :
    exec (.controlSlotArrival (some cell)) s =
      .next ((s.setChan c (s.chan c).countG).handleControl c k sel cell) := by
  rw [exec_controlSlotArrival hslot, controlArrival_of_isControl hk hcell (by simp [hactive]),
    judgeControl_of_selects k hactive hsel, if_pos htag]
  rfl

/-- The entry that is selected as the current one is the current one. -/
theorem current_of_selects {r : Channel} {tag : BitVec 2} {sel : Selection} (h : r.Selects tag sel)
    (hcurrent : sel.isCurrent = true) : ∃ e, r.current = some e ∧ sel.key = e.key ∧ sel.window = e.window := by
  rcases h with ⟨e, he, -, rfl⟩ | ⟨-, p, -, -, rfl⟩
  · exact ⟨e, he, rfl, rfl⟩
  · cases hcurrent

theorem answers_iff {r : Channel} (hactive : r.state = .active) (sel : Selection) (challenge : BitVec 64)
    (epoch : BitVec 8) :
    r.answers sel challenge epoch = true ↔
      sel.isCurrent = true ∧ r.challenge = some challenge ∧ epoch = sel.key.epoch := by
  simp only [Channel.answers, hactive, decide_true, Bool.true_and, Bool.and_eq_true, decide_eq_true_eq]
  tauto

theorem honours_iff {r : Channel} {e : CurrentEntry} (hactive : r.state = .active) (he : r.current = some e)
    (tOffer : Nat) : r.honours tOffer = true ↔ r.renewal = .idle ∧ r.holdOff = 0 ∧ 8 * tOffer ≤ e.age := by
  simp only [Channel.honours, hactive, he, decide_true, Bool.true_and, Bool.and_eq_true, decide_eq_true_eq, and_assoc]

/-- A noting cause leaves a set flag, and starts a renewal in IDLE with the hold-off at 0 (R101, R103, R105). -/
theorem trigger_shop_of_idle {s : State} {c : Fin 48} {e : CurrentEntry} (hactive : (s.chan c).state = .active)
    (he : (s.chan c).current = some e) (hidle : (s.chan c).renewal = .idle) (hhold : (s.chan c).holdOff = 0) :
    s.trigger c .shop =
      (s.setChan c { s.chan c with
        wanted := some ((s.chan c).wanted.getD .shop)
        renewal := .offered
        pendingEntry := some { epoch := epochAfter e.key.epoch, nonce := s.nextNonce, keys := none }
        pendingCells := enqueue (.offer (epochAfter e.key.epoch) s.nextNonce) (s.chan c).pendingCells
        renewRetries := s.renewalParams.retryLimit
        offerTimer := none }).afterDraw := by
  have ht : (s.chan c).triggerable = true := (triggerable_iff _).mpr (.inr hactive)
  have hdue : ((s.chan c).note .shop).startDue = true :=
    (startDue_iff (r := (s.chan c).note .shop) (k := (s.chan c).wanted.getD .shop) ht rfl).mpr ⟨hidle, .inl hhold⟩
  have hepoch : ((s.chan c).note .shop).newEpoch = epochAfter e.key.epoch := by
    show (match (s.chan c).current with | some e => epochAfter e.key.epoch | none => 1) = _
    rw [he]
  rw [trigger_of_startDue ht hdue, Channel.startRenewal, hepoch]
  rfl

/-- Settles O45: by the kind of the cell, and whether its handler's conditions hold. -/
theorem validControlCellsAreHandled : Obligations.ValidControlCellsAreHandled := by
  intro s c k cell sel hslot hcell hactive hsel htag r counted g stray payload
  have hcounted : (s.chan c).countG = counted := countG_eq _
  have hg : g.chan c = counted := chan_setChan_same ..
  have hgactive : (g.chan c).state = .active := by rw [hg]; exact hactive
  have hstray : g.countStray = stray := countStray_eq g
  have hexec : k = .request ∨ k = .resync ∨ k = .mark →
      exec (.controlSlotArrival (some cell)) s = .next (g.handleControl c k sel cell) := fun hk => by
    rw [exec_validControl hslot hk hcell hactive hsel htag, hcounted]
  refine ⟨fun hk => ?_, fun hk => ?_, fun hk e he => ?_⟩
  · rw [hexec (.inr (.inl hk)), hk]
    show Host.Outcome.next (g.judgeResync c cell) = _
    rw [State.judgeResync, if_pos hgactive, State.modChan, hg, setChan_setChan]
    rfl
  · intro answers
    have hanswers : (g.chan c).answers sel (challengeField payload) (markEpoch payload) = true ↔ answers := by
      rw [answers_iff hgactive, hg]
      rfl
    rw [hexec (.inr (.inr hk)), hk]
    show (answers → Host.Outcome.next (g.judgeMark c sel cell) = _) ∧ (¬ answers → Host.Outcome.next (g.judgeMark c sel cell) = _)
    rw [State.judgeMark]
    refine ⟨fun hyes => ?_, fun hno => ?_⟩
    · obtain ⟨e, he, -, hwindow⟩ := current_of_selects hsel hyes.1
      rw [if_pos (hanswers.mpr hyes), State.modChan, hg, setChan_setChan, Channel.anchored, hwindow]
      simp only [counted, Channel.setWindow, r, he]
      rfl
    · rw [if_neg (mt hanswers.mp hno), hstray]
  · intro honoured
    have hhonoured : (g.chan c).honours g.renewalParams.tOffer = true ↔ honoured := by
      rw [honours_iff hgactive (e := e) (by rw [hg]; exact he), hg]
      rfl
    rw [hexec (.inl hk), hk]
    show (honoured → Host.Outcome.next (g.judgeRequest c) = _) ∧ (¬ honoured → Host.Outcome.next (g.judgeRequest c) = _)
    rw [State.judgeRequest]
    refine ⟨fun hyes => ?_, fun hno => ?_⟩
    · rw [if_pos (hhonoured.mpr hyes), trigger_shop_of_idle (e := e) hgactive (by rw [hg]; exact he)
        (by rw [hg]; exact hyes.1) (by rw [hg]; exact hyes.2.1), hg, setChan_setChan]
      rfl
    · rw [if_neg (mt hhonoured.mp hno), hstray]

end Sys2Proof.Machine
end

section
/-! PROOFS. The events of the part's own that have rows of their own (R11, R14, R21, R22, R72, R73, R76, R102, R104, R106
to R108, R115 to R117, R145 to R148, R173). -/

namespace Sys2Proof.Machine

/-- A row of the part's own, the reset line not asserted, is its piece of work. -/
theorem whileRunning_of_not_line {s : State} (h : s.resetLine = false) (f : State → State) : s.whileRunning f = f s :=
  if_neg (by simp [h])

/-! ## Loss of sync and storms (R72, R73, R145, R146) -/

theorem currentEpoch_eq (r : Channel) :
    r.currentEpoch = match r.current with | some e => e.key.epoch.toNat | none => 0 := rfl

theorem placing_eq_true_iff (x : SyncState) : x.placing = true ↔ x = .sync ∨ x = .suspended := by
  cases x <;> simp [SyncState.placing]

theorem judgeSyncLoss_of_lost {s : State} {c : Fin 48} (h : (s.chan c).state = .active ∧
    ((s.chan c).sync = .sync ∨ (s.chan c).sync = .suspended) ∧ s.receive.threshold ≤ (s.chan c).syncLoss) :
    s.judgeSyncLoss c =
      ((s.raiseFor .syncLost c (s.chan c).currentEpoch).modChan c
        (fun r => r.loseSync s.nextNonce s.renewalParams.retryLimit)).afterDraw := by
  refine if_pos ?_
  simpa [placing_eq_true_iff, and_assoc] using h

theorem judgeSyncLoss_of_not_lost {s : State} {c : Fin 48} (h : ¬ ((s.chan c).state = .active ∧
    ((s.chan c).sync = .sync ∨ (s.chan c).sync = .suspended) ∧ s.receive.threshold ≤ (s.chan c).syncLoss)) :
    s.judgeSyncLoss c = s := by
  refine if_neg fun hdue => h ?_
  simpa [placing_eq_true_iff, and_assoc] using hdue

theorem stormDue_iff (q : Quality) (limit : Nat) : q.stormDue limit = true ↔ q.storm = false ∧ limit ≤ q.counts.t := by
  simp [Quality.stormDue]

theorem stormActs_iff (r : Channel) : r.stormActs = true ↔ r.state = .active ∧ r.sync ≠ .quarantine := by
  simp [Channel.stormActs]

/-- The record after a storm that acts (R145, R146). -/
theorem quarantine_markStorm_eq (r : Channel) :
    r.markStorm.quarantine =
      { r with
        sync := .quarantine
        syncLoss := 0
        challenge := none
        resyncRetries := 0
        resyncTimer := none
        pendingCells := r.pendingCells.filter (fun x => decide (x.family ≠ .challenge))
        quality := { r.quality with storm := true } } := rfl

theorem quarantine_markStorm_serving (r : Channel) : r.markStorm.quarantine.serving = r.serving := rfl

theorem markStorm_counts (r : Channel) : r.markStorm.quality.counts = r.quality.counts := rfl

/-- A storm that acts, with its mark set (R145, R146). -/
theorem judgeStorm_of_acting {s : State} {c : Fin 48} (h : (s.chan c).quality.stormDue s.qualityParams.stormLimit = true)
    (hacts : (s.chan c).stormActs = true) :
    s.judgeStorm c =
      ((s.setChan c (s.chan c).markStorm.quarantine).raise .tagStorm (some c) ((s.chan c).serving.map Service.port)
        (s.chan c).quality.counts.t).trigger c .storm := by
  rw [State.judgeStorm, if_pos h, if_pos hacts, State.storm, modChan_modChan, State.raiseFor, chan_modChan_same,
    chan_modChan_same, State.modChan, quarantine_markStorm_serving, markStorm_counts]

/-- Settles O47: by whether the count has reached its threshold, and where a storm acts. -/
theorem syncLossAndStormsAct : Obligations.SyncLossAndStormsAct := by
  intro s c hline r port epoch lost storm
  have hloss : ∀ t : State, t.resetLine = false → exec (.lossOfSync c) t = .next (t.judgeSyncLoss c) := fun t h =>
    congrArg Host.Outcome.next (whileRunning_of_not_line h _)
  have htag : ∀ t : State, t.resetLine = false → exec (.tagStorm c) t = .next (t.judgeStorm c) := fun t h =>
    congrArg Host.Outcome.next (whileRunning_of_not_line h _)
  have hdue : r.quality.stormDue s.qualityParams.stormLimit = true ↔ storm := stormDue_iff _ _
  refine ⟨fun h => ?_, fun h => ?_, fun h => ?_, fun h => ?_, fun h hactive hsync => ?_, fun h hno => ?_, fun h => ?_, ?_⟩
  · rw [hloss s hline, judgeSyncLoss_of_lost h, State.modChan, raiseFor_chan]
    rfl
  · rw [hloss s hline, judgeSyncLoss_of_not_lost h]
  · rw [hloss _ (by simpa using hline), State.raiseSyncLoss, if_pos ((placing_eq_true_iff _).mpr h)]
    rfl
  · refine if_neg fun hplacing => ?_
    rcases h with h | h <;> simp [SyncState.placing, show (s.chan c).sync = _ from h] at hplacing
  · rw [htag s hline, judgeStorm_of_acting (hdue.mpr h) ((stormActs_iff _).mpr ⟨hactive, hsync⟩),
      quarantine_markStorm_eq]
  · have hacts : ¬ (s.chan c).stormActs = true := by
      rw [stormActs_iff]
      exact fun ⟨hactive, hsync⟩ => hno.elim (fun hne => hne hactive) hsync
    rw [htag s hline, State.judgeStorm, if_pos (hdue.mpr h), if_neg hacts]
    rfl
  · rw [htag s hline, State.judgeStorm, if_neg (mt hdue.mp h)]
  · rw [htag _ (by simpa using hline), ← bump_eq]
    rfl

/-! ## Record events (R11, R14, R21, R22, R102, R104, R116) -/

theorem setChan_chan_self (s : State) (c : Fin 48) : s.setChan c (s.chan c) = s := by
  have h : s.channels.set c (s.chan c) = s.channels := Vector.set_getElem_self c.isLt
  rw [State.setChan, h]

/-- A trigger whose cause the flag holds starts a renewal if one is due, and changes nothing else (R101, R103). -/
theorem trigger_of_noted {s : State} {c : Fin 48} {k : Cause} (ht : (s.chan c).triggerable = true)
    (hw : (s.chan c).wanted = some k) : s.trigger c k = s.startIfDue c := by
  have hnote : (s.chan c).note k = s.chan c := by
    rw [Channel.note, hw, Option.getD_some, ite_self, ← hw]
  rw [State.trigger, if_pos ht, State.modChan, hnote, setChan_chan_self]

theorem startIfDue_of_not_due {s : State} {c : Fin 48} (h : ¬ (s.chan c).startDue = true) : s.startIfDue c = s := if_neg h

theorem keyingEntry_of_bound {s : State} {c : Fin 48} {m : Fin 4} {key : Block} {check : BitVec 24} {shop : BitVec 32}
    (hstate : (s.chan c).state = .opening) (hm : (s.chan c).master = some m) (hkey : s.masters[m] = .loaded key check)
    (hshop : (s.chan c).shop = some shop) :
    s.keyingEntry c = (s.setChan c ((s.chan c).enterKeying (some (baseEntry key c shop)))).trigger c .initial := by
  have hbase : s.derivedBase c = some (baseEntry key c shop) := by
    simp only [State.derivedBase, State.masterKey, hm, hkey, hshop]
  rw [State.keyingEntry, if_pos hstate, hbase]
  rfl

/-- Settles O48: each row by its rule's condition on the record. -/
theorem recordEventsActOnTheirConditions : Obligations.RecordEventsActOnTheirConditions := by
  intro s c hline r
  have hrun : ∀ f : State → State, s.whileRunning f = f s := whileRunning_of_not_line hline
  have hhard : exec (.hardLimit c) s = .next (s.judgeHardLimit c) := congrArg Host.Outcome.next (hrun _)
  have hpreset : exec (.presetTrigger c) s = .next (s.judgePreset c) := congrArg Host.Outcome.next (hrun _)
  have hage : exec (.ageTrigger c) s = .next (s.judgeAge c) := congrArg Host.Outcome.next (hrun _)
  have hkeying : exec (.keyingEntry c) s = .next (s.keyingEntry c) := congrArg Host.Outcome.next (hrun _)
  have hclosing : exec (.closingEnd c) s = .next (s.closingEnd c) := congrArg Host.Outcome.next (hrun _)
  have hhold : exec (.holdOffEnd c) s = .next (s.holdOffEnd c) := congrArg Host.Outcome.next (hrun _)
  refine ⟨fun e he => ⟨fun hactive hn hheld => ?_, fun h => ?_, fun hactive hn => ?_, fun h => ?_, fun hlimit hn => ?_,
    fun h => ?_⟩, fun hnone => ⟨?_, ?_, ?_⟩, fun m key check shop hstate hm hkey hshop => ?_, fun h => ?_, fun h => ?_,
    fun h => ?_, fun h => ?_, fun h => ⟨fun k hw hidle hstate => ?_, fun hno => ?_⟩⟩
  · rw [hhard, judgeHardLimit_of_active he hactive hheld, if_pos hn]
    rfl
  · have hno : ¬ ((s.chan c).atHardLimit && !(s.chan c).held) = true := by
      rw [Bool.and_eq_true, atHardLimit_iff]
      rintro ⟨⟨hactive, e', he', hn⟩, hheld⟩
      obtain rfl : e = e' := Option.some.inj (he.symm.trans he')
      rcases h with h | h | h
      · exact h hactive
      · exact h hn
      · simp [show (s.chan c).held = true from h] at hheld
    rw [hhard, State.judgeHardLimit, if_neg hno]
  · rw [hpreset, judgePreset_of_active he hactive, if_pos hn]
  · have hno : ¬ (decide ((s.chan c).state = .active) && (s.chan c).presetReached) = true := by
      simp only [Channel.presetReached, show (s.chan c).current = some e from he, Bool.and_eq_true, decide_eq_true_eq]
      exact fun ⟨hactive, hn⟩ => h.elim (fun hne => hne hactive) (Nat.not_le.mpr hn)
    rw [hpreset, State.judgePreset, if_neg hno]
  · rw [hage, judgeAge_eq, show (s.chan c).current = some e from he]
    exact congrArg _ (if_pos ⟨hlimit, hn⟩)
  · rw [hage, judgeAge_eq, show (s.chan c).current = some e from he]
    exact congrArg _ (if_neg fun ⟨hlimit, hn⟩ => h.elim hlimit (Nat.not_lt.mpr hn))
  · rw [hhard, State.judgeHardLimit, Channel.atHardLimit, show (s.chan c).current = none from hnone]
    rfl
  · rw [hpreset, State.judgePreset, Channel.presetReached, show (s.chan c).current = none from hnone, Bool.and_false]
    rfl
  · rw [hage, judgeAge_eq, show (s.chan c).current = none from hnone]
  · rw [hkeying, keyingEntry_of_bound hstate hm hkey hshop]
    rfl
  · rw [hkeying, State.keyingEntry, if_neg h]
  · rw [hclosing, State.closingEnd, if_pos h]
  · rw [hclosing, State.closingEnd, if_neg h]
  · rw [hhold, State.holdOffEnd, if_neg (Nat.not_le.mpr h)]
  · rw [hhold, State.holdOffEnd, if_pos h, trigger_of_noted (by simpa [triggerable_iff] using hstate) (by simpa using hw)]
    rfl
  · rw [hhold, State.holdOffEnd, if_pos h, startIfDue_of_not_due]
    · rfl
    · rw [chan_modChan_same]
      intro hdue
      cases hw : r.wanted with
      | none => simp [Channel.startDue, show (s.chan c).wanted = none from hw] at hdue
      | some k =>
        simp only [Channel.startDue, Bool.and_eq_true, decide_eq_true_eq, triggerable_iff] at hdue
        obtain ⟨⟨hstate, hidle⟩, -⟩ := hdue
        rcases hno with hno | hno | ⟨hno, hno'⟩
        · simp [hw] at hno
        · exact hno hidle
        · exact hstate.elim hno hno'

end Sys2Proof.Machine
end

section
/-! PROOFS. The timers at their last count, silence and presence (R76, R106 to R108, R115, R117, R147, R148, R163, R173). -/

namespace Sys2Proof.Machine

/-! ## The last count -/

theorem lastCount_of_none : lastCount none = false := rfl

theorem lastCount_some (n : Nat) : lastCount (some n) = decide (n ≤ 1) := rfl

theorem lastCount_of_not_last {t : Option Nat} (h : t = none ∨ ∃ n, t = some n ∧ 2 ≤ n) : lastCount t = false := by
  rcases h with rfl | ⟨n, rfl, hn⟩
  · rfl
  · rw [lastCount_some, decide_eq_false (by omega)]

/-! ## The offer timer (R106 to R108) -/

theorem requeueOffer_of_pending {r : Channel} {p : PendingEntry} (hp : r.pendingEntry = some p) :
    r.requeueOffer =
      { r with
        pendingCells := enqueue (.offer p.epoch p.nonce) r.pendingCells
        renewRetries := r.renewRetries - 1
        offerTimer := none } := by
  simp only [Channel.requeueOffer, hp, Channel.queueCell]

/-- The first cause that still stands when a renewal fails (R108). -/
theorem standingCause_eq (r : Channel) :
    r.standingCause =
      if r.state = .keying then some .initial
      else
        match r.current with
        | some e =>
          if r.ageLimit ≠ 0 ∧ r.ageLimit ≤ e.age then some .age
          else if r.preset < e.nextTx then some .preset
          else none
        | none => none := by
  unfold Channel.standingCause Channel.ageReached Channel.presetReached
  cases r.current <;> simp

/-- The record after a renewal with no retries left has failed (R108). -/
theorem failRenewal_of_spent {r : Channel} (h : r.renewRetries = 0) (tOffer : Nat) :
    r.failRenewal tOffer =
      { r with
        pendingEntry := none
        pendingCells := r.pendingCells.filter (fun x => decide (x.family ≠ .renewal))
        offerTimer := none
        renewal := .idle
        holdOff := 8 * tOffer
        wanted :=
          if r.state = .keying then some .initial
          else
            match r.current with
            | some e =>
              if r.ageLimit ≠ 0 ∧ r.ageLimit ≤ e.age then some .age
              else if r.preset < e.nextTx then some .preset
              else none
            | none => none } := by
  rw [Channel.failRenewal, standingCause_eq, ← h]
  rfl

theorem failRenewal_eq (s : State) (c : Fin 48) {p : PendingEntry} (hp : (s.chan c).pendingEntry = some p) :
    s.failRenewal c =
      (s.raise .renewFail (some c) ((s.chan c).serving.map Service.port) p.epoch.toNat).setChan c
        ((s.chan c).failRenewal s.renewalParams.tOffer) := by
  have hepoch : (s.chan c).offeredEpoch = p.epoch.toNat := by rw [Channel.offeredEpoch, hp]
  rw [State.failRenewal, hepoch, State.modChan, raiseFor_chan]
  rfl

theorem offerTimerExpiry_of_last {s : State} {c : Fin 48} (hlocked : s.timebase.trunk = .locked)
    (hlast : lastCount (s.chan c).offerTimer = true) :
    s.offerTimerExpiry c =
      if 0 < (s.chan c).renewRetries then s.modChan c Channel.requeueOffer else s.failRenewal c := by
  rw [State.offerTimerExpiry, if_pos ⟨hlocked, hlast⟩, State.offerExpired, chan_modChan_same, if_pos rfl,
    failRenewal_of_offerTimer, modChan_modChan]
  simp only [requeueOffer_of_offerTimer]

/-! ## The resync timer (R76) -/

theorem requeueResync_of_challenge {r : Channel} {x : BitVec 64} (hx : r.challenge = some x) :
    r.requeueResync =
      { r with
        pendingCells := enqueue (.resync x) r.pendingCells
        resyncRetries := r.resyncRetries - 1
        resyncTimer := none } := by
  simp only [Channel.requeueResync, hx, Channel.queueCell]

theorem endExchange_eq (r : Channel) :
    r.endExchange =
      { r with
        pendingCells := r.pendingCells.filter (fun x => decide (x.family ≠ .challenge))
        challenge := none
        resyncRetries := 0
        resyncTimer := none } := rfl

theorem endExchange_serving (r : Channel) : r.endExchange.serving = r.serving := rfl

theorem endExchange_of_resyncTimer (r : Channel) (t : Option Nat) :
    ({ r with resyncTimer := t }).endExchange = r.endExchange := rfl

theorem resyncTimerExpiry_of_last {s : State} {c : Fin 48} (hlocked : s.timebase.trunk = .locked)
    (hlast : lastCount (s.chan c).resyncTimer = true) :
    s.resyncTimerExpiry c =
      if 0 < (s.chan c).resyncRetries then s.modChan c Channel.requeueResync
      else ((s.setChan c (s.chan c).endExchange).raise .resyncFail (some c) ((s.chan c).serving.map Service.port)
        s.renewalParams.retryLimit).trigger c .resync := by
  rw [State.resyncTimerExpiry, if_pos ⟨hlocked, hlast⟩, State.resyncExpired, chan_modChan_same, if_pos rfl,
    modChan_modChan, modChan_modChan, State.raiseFor, chan_modChan_same, modChan_renewalParams]
  simp only [requeueResync_of_resyncTimer, endExchange_of_resyncTimer, endExchange_serving]
  rfl

/-! ## The cutover timer (R115) -/

theorem cutoverTimerExpiry_of_last {s : State} {c : Fin 48} {p : PreviousEntry} (hlocked : s.timebase.trunk = .locked)
    (hp : (s.chan c).previous = some p) (hlast : p.cutover ≤ 1) :
    s.cutoverTimerExpiry c =
      (s.setChan c { s.chan c with previous := none, renewal := .idle }).startIfDue c := by
  rw [State.cutoverTimerExpiry, if_pos ⟨hlocked, by rw [hp]; exact decide_eq_true hlast⟩]
  rfl

/-- Settles O49: each timer by its last count, and what is left of its retries. -/
theorem timersExpire : Obligations.TimersExpire := by
  intro s c hline r port locked
  have hrun : ∀ f : State → State, s.whileRunning f = f s := whileRunning_of_not_line hline
  have hoffer : exec (.offerTimerExpiry c) s = .next (s.offerTimerExpiry c) := congrArg Host.Outcome.next (hrun _)
  have hresync : exec (.resyncTimerExpiry c) s = .next (s.resyncTimerExpiry c) := congrArg Host.Outcome.next (hrun _)
  have hcutover : exec (.cutoverTimerExpiry c) s = .next (s.cutoverTimerExpiry c) := congrArg Host.Outcome.next (hrun _)
  rw [hoffer, hresync, hcutover]
  have hlastOf : ∀ {t : Option Nat} {n : Nat}, t = some n → n ≤ 1 → lastCount t = true := by
    rintro t n rfl hn
    exact decide_eq_true hn
  refine ⟨fun h => ⟨?_, ?_, ?_⟩, fun h => ?_, fun h => ?_, fun h => ?_, fun n p hl hn hlast hp => ⟨fun hretry => ?_,
    fun hspent => ?_⟩, fun n x hl hn hlast hx => ⟨fun hretry => ?_, fun hspent => ?_⟩, fun p hl hp hlast => ?_⟩
  · rw [State.offerTimerExpiry, if_neg fun hdue => h hdue.1]
  · rw [State.resyncTimerExpiry, if_neg fun hdue => h hdue.1]
  · rw [State.cutoverTimerExpiry, if_neg fun hdue => h hdue.1]
  · rw [State.offerTimerExpiry, if_neg fun hdue => Bool.eq_false_iff.mp (lastCount_of_not_last h) hdue.2]
  · rw [State.resyncTimerExpiry, if_neg fun hdue => Bool.eq_false_iff.mp (lastCount_of_not_last h) hdue.2]
  · have hnot : r.previous.map (·.cutover) = none ∨ ∃ n, r.previous.map (·.cutover) = some n ∧ 2 ≤ n := by
      rcases h with h | ⟨p, hp, hn⟩
      · exact .inl (by rw [h]; rfl)
      · exact .inr ⟨p.cutover, by rw [hp]; rfl, hn⟩
    rw [State.cutoverTimerExpiry, if_neg fun hdue => Bool.eq_false_iff.mp (lastCount_of_not_last hnot) hdue.2]
  · rw [offerTimerExpiry_of_last hl (hlastOf hn hlast), if_pos (show 0 < (s.chan c).renewRetries from hretry),
      State.modChan, requeueOffer_of_pending hp]
  · rw [offerTimerExpiry_of_last hl (hlastOf hn hlast), if_neg (Nat.not_lt.mpr (Nat.le_of_eq hspent)),
      failRenewal_eq s c hp]
    exact congrArg (fun x => Host.Outcome.next (State.setChan _ c x)) (failRenewal_of_spent hspent _)
  · rw [resyncTimerExpiry_of_last hl (hlastOf hn hlast), if_pos (show 0 < (s.chan c).resyncRetries from hretry),
      State.modChan, requeueResync_of_challenge hx]
  · rw [resyncTimerExpiry_of_last hl (hlastOf hn hlast), if_neg (Nat.not_lt.mpr (Nat.le_of_eq hspent)),
      endExchange_eq, ← show (s.chan c).resyncRetries = 0 from hspent]
  · intro ended
    rw [cutoverTimerExpiry_of_last hl hp hlast]
    have hended : ended.chan c = { s.chan c with previous := none, renewal := .idle } := chan_setChan_same ..
    refine ⟨fun k hw hstate hhold => ?_, fun hno => ?_⟩
    · rw [trigger_of_noted (by simpa [hended, triggerable_iff] using hstate) (by rw [hended]; exact hw)]
    · refine congrArg _ (startIfDue_of_not_due fun hdue => ?_)
      rw [chan_setChan_same] at hdue
      simp only [Channel.startDue, Bool.and_eq_true, decide_eq_true_eq, triggerable_iff] at hdue
      obtain ⟨⟨hstate, -⟩, hcause⟩ := hdue
      rcases hno with hno | ⟨hno, hno'⟩ | ⟨hhold, hforcing⟩
      · rw [show (s.chan c).wanted = none from hno] at hcause
        cases hcause
      · exact hstate.elim hno hno'
      · cases hw : (s.chan c).wanted with
        | none => simp [hw] at hcause
        | some k => simp [hw, hforcing k hw, show (s.chan c).holdOff ≠ 0 from hhold] at hcause

/-! ## Silence and presence (R148, R173) -/

/-- Closure at once: the channel's cells leave its serving port's queue, and its record has the closed values (R12,
R15). -/
theorem closeNow_of_serving {s : State} {c : Fin 48} {o : Service} (ho : (s.chan c).serving = some o) :
    s.closeNow c =
      (s.setChan c Channel.closedValues).setInbound o ((s.inbound o).filter (fun x => decide (x.channel ≠ c))) := by
  rw [State.closeNow, State.teardown, State.removeInbound, ho, State.modChan, setChan_setChan]
  cases o <;> rfl

theorem raise_setInbound (s : State) (o : Service) (cells : List Delivered) (k : FaultKind) (c : Option (Fin 48))
    (p : Option Port) (n : Nat) : (s.setInbound o cells).raise k c p n = (s.raise k c p n).setInbound o cells := by
  cases o <;> rfl

theorem raise_setChan (s : State) (d : Fin 48) (r : Channel) (k : FaultKind) (c : Option (Fin 48)) (p : Option Port)
    (n : Nat) : (s.setChan d r).raise k c p n = (s.raise k c p n).setChan d r := rfl

theorem setLink_setLink (s : State) (p : Port) (l l' : PortLink) : (s.setLink p l).setLink p l' = s.setLink p l' := by
  cases p <;> rfl

/-- The next count of a silence timer on a LOCKED trunk (R147, R148). -/
theorem silenceLimit_of_locked {s : State} (hlocked : s.timebase.trunk = .locked) (c : Fin 48) :
    s.silenceLimit c =
      if (s.chan c).quality.silenceRunning = true ∧
          s.qualityParams.silenceLimit ≤ min 65535 ((s.chan c).quality.silence + 1) then
        ((s.setChan c { s.chan c with
            quality := { (s.chan c).quality with silence := min 65535 ((s.chan c).quality.silence + 1) } }).raise .silent
          (some c) ((s.chan c).serving.map Service.port) (min 65535 ((s.chan c).quality.silence + 1))).closeNow c
      else s := by
  unfold State.silenceLimit State.judgeSilence State.raiseFor
  simp only [bump_eq, Quality.silent, State.modChan, chan_setChan_same, Bool.and_eq_true, decide_eq_true_eq, hlocked,
    true_and, setChan_qualityParams]
  split <;> simp_all

theorem tick_expired (l : PortLink) :
    { l.tick with present := false, timer := 0 } = { l with present := false, timer := 0 } := by
  unfold PortLink.tick
  split <;> rfl

/-- The next count of a port's presence timer (R173). -/
theorem presenceExpiry_eq (s : State) (p : Port) :
    s.presenceExpiry p =
      if (s.link p).present = true ∧ s.presencePeriod ≤ min 65535 ((s.link p).timer + 1) then
        (s.setLink p { s.link p with present := false, timer := 0 }).raise .portAbsent none (some p) s.presencePeriod
      else s := by
  have hdue : (s.setLink p (s.link p).tick).presenceDue p = true ↔
      (s.link p).present = true ∧ s.presencePeriod ≤ min 65535 ((s.link p).timer + 1) := by
    rw [State.presenceDue, link_setLink_same, PortLink.tick]
    by_cases h : (s.link p).present = true <;> simp [h, bump_eq]
  unfold State.presenceExpiry State.presenceExpired
  simp only [hdue, link_setLink_same, setLink_setLink, tick_expired, setLink_presencePeriod]
  split <;> rfl

/-- Settles O50: silence and presence by whether the next count reaches the limit. -/
theorem silenceAndPresenceEnd : Obligations.SilenceAndPresenceEnd := by
  intro s c p hline r count due l absent
  have hrun : ∀ f : State → State, s.whileRunning f = f s := whileRunning_of_not_line hline
  have hsilence : exec (.silenceLimit c) s = .next (s.silenceLimit c) := congrArg Host.Outcome.next (hrun _)
  have hpresence : exec (.presenceExpiry p) s = .next (s.presenceExpiry p) := congrArg Host.Outcome.next (hrun _)
  rw [hsilence, hpresence]
  refine ⟨fun o hyes ho => ?_, fun hno => ?_, fun hyes => ?_, fun hno => ?_⟩
  · obtain ⟨hlocked, hsilent⟩ := hyes
    rw [silenceLimit_of_locked hlocked c, if_pos hsilent, closeNow_of_serving (by simpa using ho),
      raise_setInbound, raise_setChan]
    simp only [setChan_setChan, setChan_inbound, raise_inbound, raise_setChan, show (s.chan c).serving = some o from ho]
    rfl
  · by_cases hlocked : s.timebase.trunk = .locked
    · rw [silenceLimit_of_locked hlocked c, if_neg fun h => hno ⟨hlocked, h⟩]
    · rw [State.silenceLimit, if_neg fun h => hlocked h.1]
  · rw [presenceExpiry_eq, if_pos hyes]
  · rw [presenceExpiry_eq, if_neg hno]

end Sys2Proof.Machine
end

section
/-! PROOFS. The state after power-on is sound. -/

namespace Sys2Proof.Machine

theorem closedValues_sequenceFits : Channel.closedValues.SequenceFits := rfl

theorem closedValues_epochsFit : Channel.closedValues.EpochsFit := ⟨nofun, nofun, nofun, nofun⟩

theorem closedValues_windowsFit : Channel.closedValues.WindowsFit := ⟨nofun, nofun⟩

theorem closedValues_ranges : Channel.closedValues.InRange where
  shop := nofun
  outbound := by decide
  lengths := nofun
  preset := by decide
  ageLimit := .inl rfl
  age := nofun
  holdOff := by decide
  offerTimer := nofun
  resyncTimer := nofun
  cutover := nofun
  syncLoss := by decide
  retries := by decide
  quality := Quality.fresh_fits

/-- The state after power-on is sound in every law. -/
theorem reset_sound : State.reset.Sound where
  records :=
    { records := fun c => by
        rw [reset_chan]
        exact closedValues_fits
      binding := fun c h => absurd rfl (reset_chan c ▸ h) }
  sequences := fun c => by
    rw [reset_chan]
    exact closedValues_sequenceFits
  epochs := fun c => by
    rw [reset_chan]
    exact closedValues_epochsFit
  windows := fun c => by
    rw [reset_chan]
    exact closedValues_windowsFit
  ranges := fun c => by
    rw [reset_chan]
    exact closedValues_ranges
  inbound := fun q => by simp
  cells := fun q => by simp
  log := ⟨by decide, rfl, nofun, by decide, nofun⟩
  links := fun p => by
    rw [reset_link]
    exact freshLink_sound
  trunk := reset_trunkSound
  params := reset_paramsSound

/-- Settles O60: `reset_sound`, and the values of the reset state. -/
theorem resetStateIsSound : Obligations.ResetStateIsSound := by
  refine ⟨reset_sound, reset_chan, fun m => ?_, rfl, fun n => ?_, rfl, rfl, rfl, rfl, rfl, rfl, rfl, rfl, rfl, rfl, rfl, rfl,
    rfl, rfl, rfl, rfl, rfl, rfl, rfl, rfl, rfl⟩
  · exact Vector.getElem_replicate m.isLt
  · exact Vector.getElem_replicate n.isLt

end Sys2Proof.Machine
end

section
/-! PROOFS. The order of a tick's works, and the period end (R141 to R143). -/

namespace Sys2Proof.Machine

/-! ## The order of the works -/

/-- The works that an order names come first, in its order; the others follow in their own. -/
theorem inOrder_eq {first due : List TickWork} (hfirst : first.Nodup) (hdue : due.Nodup) :
    inOrder first due = first.filter (fun w => decide (w ∈ due)) ++ due.filter (fun w => decide (w ∉ first)) := by
  induction first generalizing due with
  | nil => simp [inOrder]
  | cons w ws ih =>
    obtain ⟨hw, hws⟩ := List.nodup_cons.mp hfirst
    by_cases hmem : w ∈ due
    · have hne : ∀ x ∈ ws, x ≠ w := fun x hx h => hw (h ▸ hx)
      have hnamed : ws.filter (fun x => decide (x ∈ due.erase w)) = ws.filter (fun x => decide (x ∈ due)) :=
        List.filter_congr fun x hx => by simp [List.mem_erase_of_ne (hne x hx)]
      have hrest : (due.erase w).filter (fun x => decide (x ∉ ws)) = due.filter (fun x => decide (x ∉ w :: ws)) := by
        rw [hdue.erase_eq_filter, List.filter_filter]
        refine List.filter_congr fun x _ => ?_
        by_cases hx : x = w <;> simp [hx]
      rw [inOrder, if_pos hmem, ih hws (hdue.erase w), hnamed, hrest, List.filter_cons, if_pos (by simpa using hmem),
        List.cons_append]
    · have hrest : due.filter (fun x => decide (x ∉ ws)) = due.filter (fun x => decide (x ∉ w :: ws)) := by
        refine List.filter_congr fun x hx => ?_
        have : x ≠ w := fun h => hmem (h ▸ hx)
        simp [this]
      rw [inOrder, if_neg hmem, ih hws hdue, hrest, List.filter_cons, if_neg (by simpa using hmem)]

/-- An order that names exactly the due works is the order in which they are taken. -/
theorem inOrder_of_all {first due : List TickWork} (hfirst : first.Nodup) (hdue : due.Nodup)
    (h : ∀ w, w ∈ first ↔ w ∈ due) : inOrder first due = first := by
  have hall : first.filter (fun w => decide (w ∈ due)) = first :=
    List.filter_eq_self.mpr fun w hw => decide_eq_true ((h w).mp hw)
  have hnone : due.filter (fun w => decide (w ∉ first)) = [] :=
    List.filter_eq_nil_iff.mpr fun w hw => by simpa using (h w).mpr hw
  rw [inOrder_eq hfirst hdue, hall, hnone, List.append_nil]

/-! ## Scoring one channel (R141 to R143) -/

/-- The low flag that a period end leaves on a quality state (R143). -/
def lowAtPeriodEnd (params : QualityParams) (q : Quality) : Bool :=
  lowFlagAfter params.low params.high q.closePeriod.smoothed q.low

/-- The record that a period end leaves (R141 to R143). -/
def Channel.scored (params : QualityParams) (r : Channel) : Channel :=
  { r with quality := { r.quality.closePeriod with low := lowAtPeriodEnd params r.quality } }

/-- The fault that a period end raises for a record of channel c whose low flag it has changed (R143). -/
def State.raiseScore (u : State) (params : QualityParams) (c : Fin 48) (r : Channel) : State :=
  u.raise (if lowAtPeriodEnd params r.quality then .qualityLow else .qualityOk) (some c) (r.serving.map Service.port)
    r.quality.closePeriod.smoothed

theorem scoreChannel_of_open {s : State} {c : Fin 48} (h : (s.chan c).state ≠ .closed) :
    s.scoreChannel c =
      if lowAtPeriodEnd s.qualityParams (s.chan c).quality = (s.chan c).quality.low then
        s.setChan c ((s.chan c).scored s.qualityParams)
      else (s.setChan c ((s.chan c).scored s.qualityParams)).raiseScore s.qualityParams c (s.chan c) := by
  rw [State.scoreChannel, if_neg h]
  change (if lowAtPeriodEnd s.qualityParams (s.chan c).quality = (s.chan c).quality.low then _
    else if lowAtPeriodEnd s.qualityParams (s.chan c).quality = true then _ else _) = _
  unfold State.raiseFor State.raiseScore
  simp only [chan_modChan_same]
  cases lowAtPeriodEnd s.qualityParams (s.chan c).quality <;> rfl

/-- The faults that a period end raises for a list of channels whose low flag it has changed, in the list's order. -/
def State.raiseScores (u : State) (params : QualityParams) (records : Fin 48 → Channel) (cs : List (Fin 48)) : State :=
  cs.foldl (fun u c => u.raiseScore params c (records c)) u

theorem raiseScores_setChan (u : State) (params : QualityParams) (records : Fin 48 → Channel) (d : Fin 48) (r : Channel)
    (cs : List (Fin 48)) :
    (u.setChan d r).raiseScores params records cs = (u.raiseScores params records cs).setChan d r := by
  induction cs generalizing u with
  | nil => rfl
  | cons c cs ih => exact ih (u.raiseScore params c (records c))

/-! ## Scoring every channel -/

/-- The channels of a list whose low flag a period end changes. -/
def lowChanges (params : QualityParams) (records : Fin 48 → Channel) (cs : List (Fin 48)) : List (Fin 48) :=
  cs.filter (fun c => lowAtPeriodEnd params (records c).quality != (records c).quality.low)

theorem lowChanges_cons (params : QualityParams) (records : Fin 48 → Channel) (c : Fin 48) (cs : List (Fin 48)) :
    lowChanges params records (c :: cs) =
      if lowAtPeriodEnd params (records c).quality = (records c).quality.low then lowChanges params records cs
      else c :: lowChanges params records cs := by
  unfold lowChanges
  rw [List.filter_cons]
  by_cases h : lowAtPeriodEnd params (records c).quality = (records c).quality.low <;> simp [h]

/-- The records that a period end leaves of a list of channels. -/
def State.setScores (u : State) (params : QualityParams) (records : Fin 48 → Channel) (cs : List (Fin 48)) : State :=
  cs.foldl (fun u c => u.setChan c ((records c).scored params)) u

/-- The scoring of a list of open channels, whole: their records, and the faults of the flags that change, in the list's
order. -/
theorem carryOut_scores {cs : List (Fin 48)} (hcs : cs.Nodup) (s : State) (params : QualityParams)
    (records : Fin 48 → Channel) (hparams : s.qualityParams = params)
    (hrecords : ∀ c ∈ cs, s.chan c = records c ∧ (records c).state ≠ .closed) :
    s.carryOut (cs.map .score) =
      (s.raiseScores params records (lowChanges params records cs)).setScores params records cs := by
  induction cs generalizing s with
  | nil => rfl
  | cons c cs ih =>
    obtain ⟨hc, hcs⟩ := List.nodup_cons.mp hcs
    obtain ⟨hcr, hopen⟩ := hrecords c List.mem_cons_self
    have hrest : ∀ d ∈ cs, (s.setChan c ((records c).scored params)).chan d = records d ∧ (records d).state ≠ .closed := by
      intro d hd
      obtain ⟨hdr, hdopen⟩ := hrecords d (List.mem_cons_of_mem _ hd)
      exact ⟨(chan_setChan_ne _ _ fun h => hc (by rw [h]; exact hd)).trans hdr, hdopen⟩
    rw [List.map_cons, carryOut_cons, lowChanges_cons]
    change (s.scoreChannel c).carryOut _ = _
    rw [scoreChannel_of_open (by rw [hcr]; exact hopen), hcr, hparams]
    split
    · rw [ih hcs (s.setChan c _) hparams hrest, raiseScores_setChan]
      rfl
    · rw [ih hcs ((s.setChan c _).raiseScore params c (records c)) hparams hrest]
      change (((s.raiseScore params c (records c)).setChan c _).raiseScores _ _ _).setScores _ _ _ = _
      rw [raiseScores_setChan]
      rfl

theorem setScores_chan (u : State) (params : QualityParams) (records : Fin 48 → Channel) (cs : List (Fin 48))
    (c : Fin 48) :
    (u.setScores params records cs).chan c = if c ∈ cs then (records c).scored params else u.chan c := by
  induction cs generalizing u with
  | nil => rfl
  | cons d cs ih =>
    change ((u.setChan d _).setScores params records cs).chan c = _
    rw [ih, chan_setChan]
    by_cases hd : d = c
    · subst hd
      simp
    · simp [hd, Ne.symm hd]

/-- Scores written leave everything but the records. -/
theorem setScores_keeps (u : State) (params : QualityParams) (records : Fin 48 → Channel) (cs : List (Fin 48)) :
    u.setScores params records cs = { u with channels := (u.setScores params records cs).channels } := by
  induction cs generalizing u with
  | nil => rfl
  | cons d cs ih => exact ih (u.setChan d _)

/-- Scores raised leave everything but the log. -/
theorem raiseScores_keeps (u : State) (params : QualityParams) (records : Fin 48 → Channel) (cs : List (Fin 48)) :
    u.raiseScores params records cs = { u with log := (u.raiseScores params records cs).log } := by
  induction cs generalizing u with
  | nil => rfl
  | cons d cs ih => exact ih (u.raiseScore params d (records d))

theorem raiseScores_periodTimer (u : State) (params : QualityParams) (records : Fin 48 → Channel) (cs : List (Fin 48))
    (n : Nat) : { u with periodTimer := n }.raiseScores params records cs =
      { u.raiseScores params records cs with periodTimer := n } := by
  induction cs generalizing u with
  | nil => rfl
  | cons d cs ih => exact ih (u.raiseScore params d (records d))

/-! ## The order of a period end -/

/-- The channels that a period end scores. -/
def State.openChannels (s : State) : List (Fin 48) :=
  (List.finRange 48).filter (fun c => decide ((s.chan c).state ≠ .closed))

theorem openChannels_nodup (s : State) : s.openChannels.Nodup := (List.nodup_finRange 48).filter _

theorem mem_openChannels {s : State} {c : Fin 48} : c ∈ s.openChannels ↔ (s.chan c).state ≠ .closed := by
  simp [State.openChannels]

theorem score_injective : Function.Injective TickWork.score := fun _ _ h => TickWork.score.inj h

/-- The works of a period end are the scores of the open channels in some order, and in the order named. -/
theorem scoreWorks_inOrder (s : State) (order : List TickWork) :
    ∃ cs : List (Fin 48), inOrder order s.scoreWorks = cs.map .score ∧ cs.Perm s.openChannels ∧
      ∀ os : List (Fin 48), order = os.map .score → os.Nodup →
        cs = os.filter (fun c => decide (c ∈ s.openChannels)) ++
          s.openChannels.filter (fun c => decide (c ∉ os)) := by
  have hworks : s.scoreWorks = s.openChannels.map .score := rfl
  obtain ⟨cs, hcs⟩ : ∃ cs : List (Fin 48), inOrder order s.scoreWorks = cs.map .score := by
    have hall : ∀ w ∈ inOrder order s.scoreWorks, w ∈ Set.range TickWork.score := by
      intro w hw
      obtain ⟨c, -, hc⟩ := List.mem_map.mp (hworks ▸ mem_inOrder.mp hw)
      exact ⟨c, hc⟩
    obtain ⟨cs, hcs⟩ : inOrder order s.scoreWorks ∈ Set.range (List.map TickWork.score) := by
      rw [Set.range_list_map]
      exact hall
    exact ⟨cs, hcs.symm⟩
  refine ⟨cs, hcs, ?_, ?_⟩
  · exact (List.map_perm_map_iff score_injective).mp (hcs ▸ hworks ▸ inOrder_perm order s.scoreWorks)
  · rintro os rfl hos
    refine List.map_injective_iff.mpr score_injective ?_
    rw [← hcs, hworks, inOrder_eq (hos.map score_injective) ((openChannels_nodup s).map score_injective), List.map_append,
      List.filter_map, List.filter_map]
    have hmem : ∀ (c : Fin 48) (l : List (Fin 48)), TickWork.score c ∈ l.map .score ↔ c ∈ l :=
      fun _ _ => List.mem_map_of_injective score_injective
    simp only [Function.comp_def, hmem]

/-- Settles O51: the period end scores the open channels in the order that `inOrder` gives. -/
theorem periodEndsScoreEveryChannel : Obligations.PeriodEndsScoreEveryChannel := by
  intro s order hline
  have hexec : exec (.periodEnd order) s = .next (s.periodEnd order) :=
    congrArg Host.Outcome.next (whileRunning_of_not_line hline _)
  have hdue : s.periodDue = decide (s.qualityParams.period ≤ min 65535 (s.periodTimer + 1)) := by
    rw [State.periodDue, bump_eq]
  rw [hexec, State.periodEnd, hdue]
  refine ⟨fun hnot => by rw [if_neg (by simpa only [decide_eq_true_eq, not_le] using hnot)], fun hend => ?_⟩
  intro n score smoothed low changed
  rw [if_pos (by simpa only [decide_eq_true_eq] using hend)]
  obtain ⟨cs, hcs, hperm, hnamed⟩ := scoreWorks_inOrder s order
  have hopen : ∀ c ∈ cs, (s.chan c).state ≠ .closed := fun c hc => mem_openChannels.mp (hperm.mem_iff.mp hc)
  have hlow : ∀ c, low (s.chan c).quality = lowAtPeriodEnd s.qualityParams (s.chan c).quality := fun _ => rfl
  have hchanged : ∀ c ∈ cs, changed c =
      (lowAtPeriodEnd s.qualityParams (s.chan c).quality != (s.chan c).quality.low) := by
    intro c hc
    change (decide _ && _) = _
    rw [decide_eq_true (hopen c hc), Bool.true_and, hlow]
  have hfaults : lowChanges s.qualityParams s.chan cs = cs.filter changed :=
    List.filter_congr fun c hc => (hchanged c hc).symm
  have hwhole := carryOut_scores (hperm.nodup_iff.mpr (openChannels_nodup s)) { s with periodTimer := 0 } s.qualityParams
    s.chan rfl (fun c hc => ⟨rfl, hopen c hc⟩)
  rw [raiseScores_periodTimer, hfaults] at hwhole
  refine ⟨_, rfl, fun c => ?_, ?_, cs.filter changed, ?_, fun os hos hnodup hall => ?_, ?_⟩
  · rw [hcs, hwhole, setScores_chan]
    by_cases hc : c ∈ cs
    · rw [if_pos hc, if_neg (hopen c hc)]
      rfl
    · have hclosed : (s.chan c).state = .closed :=
        Decidable.not_not.mp fun h => hc (hperm.mem_iff.mpr (mem_openChannels.mpr h))
      rw [if_neg hc, if_pos hclosed]
      exact congrFun (congrArg State.chan (raiseScores_keeps s _ _ _)) c
  · rw [hcs, hwhole, setScores_keeps, raiseScores_keeps]
  · have hfilter : s.openChannels.filter changed = (List.finRange 48).filter changed := by
      rw [State.openChannels, List.filter_filter]
      refine List.filter_congr fun c _ => ?_
      change ((decide _ && _) && decide _) = (decide _ && _)
      rw [Bool.and_right_comm, Bool.and_self]
    exact hfilter ▸ hperm.filter changed
  · have hnone : (s.openChannels.filter (fun c => decide (c ∉ os))).filter changed = [] := by
      refine List.filter_eq_nil_iff.mpr fun c hc hyes => ?_
      exact of_decide_eq_true (List.mem_filter.mp hc).2 (hall c hyes)
    rw [hnamed os hos hnodup, List.filter_append, List.filter_filter, hnone, List.append_nil]
    refine List.filter_congr fun c _ => ?_
    by_cases hc : changed c = true
    · have hmem : c ∈ s.openChannels := mem_openChannels.mpr (of_decide_eq_true (Bool.and_eq_true_iff.mp hc).1)
      rw [decide_eq_true hmem, Bool.and_true]
    · rw [Bool.eq_false_iff.mpr hc, Bool.false_and]
  · rw [hcs, hwhole, setScores_keeps]
    rfl

end Sys2Proof.Machine
end

section
/-! PROOFS. The cell transform: the fields of a written header, the cells the part forms, and the keystream (chapter 3). -/

namespace Sys2Proof.Machine

/-! ## Fields of appended words -/

theorem append_inj {v w : Nat} {a a' : BitVec v} {b b' : BitVec w} (h : a ++ b = a' ++ b') : a = a' ∧ b = b' :=
  ⟨by simpa only [BitVec.extractLsb'_append_eq_left] using congrArg (BitVec.extractLsb' w v) h,
    by simpa only [BitVec.extractLsb'_append_eq_right] using congrArg (BitVec.extractLsb' 0 w) h⟩

/-! ## The fields of a header that the part writes (R49) -/

section
variable (k : CellKind) (epoch : BitVec 8) (c : Fin 48) (sequence : BitVec 24) (length : BitVec 8)

@[simp] theorem headerKindCode_header : headerKindCode (header k epoch c sequence length) = k.code := by
  unfold headerKindCode header headerFront
  simp (disch := decide) only [BitVec.extractLsb'_append_eq_of_le, BitVec.extractLsb'_eq_self, Nat.reduceSub]

@[simp] theorem headerEpochTag_header : headerEpochTag (header k epoch c sequence length) = epochTag epoch := by
  unfold headerEpochTag header headerFront epochTag
  simp (disch := decide) only [BitVec.extractLsb'_append_eq_of_le, BitVec.extractLsb'_append_eq_of_add_le,
    BitVec.extractLsb'_eq_self, Nat.reduceSub]

@[simp] theorem headerChannel_header : headerChannel (header k epoch c sequence length) = BitVec.ofNat 6 c.val := by
  unfold headerChannel header headerFront
  simp (disch := decide) only [BitVec.extractLsb'_append_eq_of_le, BitVec.extractLsb'_append_eq_of_add_le,
    BitVec.extractLsb'_eq_self, Nat.reduceSub]

@[simp] theorem headerSequence_header : headerSequence (header k epoch c sequence length) = sequence := by
  unfold headerSequence header headerFront
  simp (disch := decide) only [BitVec.extractLsb'_append_eq_of_le, BitVec.extractLsb'_append_eq_of_add_le,
    BitVec.extractLsb'_eq_self, Nat.reduceSub]

@[simp] theorem headerLength_header : headerLength (header k epoch c sequence length) = length := by
  unfold headerLength header headerFront
  simp (disch := decide) only [BitVec.extractLsb'_append_eq_of_le, BitVec.extractLsb'_append_eq_of_add_le,
    BitVec.extractLsb'_eq_self, Nat.reduceSub]

@[simp] theorem zeroPasses_header : zeroPasses (header k epoch c sequence length) = true := by
  unfold zeroPasses headerByte header headerFront
  simp (disch := decide) only [BitVec.extractLsb'_append_eq_of_le, BitVec.extractLsb'_append_eq_of_add_le,
    BitVec.extractLsb'_eq_self, Nat.reduceSub, Nat.reduceMul]
  decide

/-- The header check byte brings the sum of the eight bytes to 255. -/
@[simp] theorem checkPasses_header : checkPasses (header k epoch c sequence length) = true := by
  unfold checkPasses headerByte header
  generalize headerFront k epoch c sequence length = front
  simp (disch := decide) only [BitVec.extractLsb'_append_eq_of_le, BitVec.extractLsb'_append_eq_right, Nat.reduceSub,
    Nat.reduceMul]
  exact decide_eq_true (add_sub_cancel _ _)

end

/-! ## The six checks (R51) -/

theorem checkPasses_iff (h : BitVec 64) :
    checkPasses h = true ↔
      (h.extractLsb' 56 8 + h.extractLsb' 48 8 + h.extractLsb' 40 8 + h.extractLsb' 32 8 + h.extractLsb' 24 8 +
        h.extractLsb' 16 8 + h.extractLsb' 8 8 + h.extractLsb' 0 8 : BitVec 8) = 255 := decide_eq_true_iff

theorem zeroPasses_iff (h : BitVec 64) :
    zeroPasses h = true ↔ h.extractLsb' 56 2 = 0 ∧ h.extractLsb' 54 2 = 0 ∧ h.extractLsb' 8 8 = 0 := by
  rw [zeroPasses, Bool.and_eq_true, Bool.and_eq_true, decide_eq_true_iff, decide_eq_true_iff, decide_eq_true_iff, and_assoc]
  rfl

/-- The kind that a code names, from the list of the codes (R50). -/
theorem kindOfCode_eq_find : ∀ code : BitVec 4, kindOfCode code =
    (([(0, .idle), (1, .data), (2, .pad), (8, .offer), (9, .accept), (10, .switch), (11, .request), (12, .resync),
      (13, .mark)] : List (BitVec 4 × CellKind)).find? (fun x => x.1 = code)).map (·.2) := by decide

@[simp] theorem kindOfCode_code (k : CellKind) : kindOfCode k.code = some k := by cases k <;> rfl

/-- The length of a kind whose length is fixed by its kind alone (R50). -/
def CellKind.fixedLength : CellKind → Nat
  | .idle => 0
  | .data => 0
  | .pad => 0
  | .offer => 13
  | .accept => 17
  | .switch => 1
  | .request => 1
  | .resync => 8
  | .mark => 12

theorem controlLength_eq (k : CellKind) :
    k.controlLength = if k = .idle ∨ k = .data ∨ k = .pad then none else some k.fixedLength := by cases k <;> rfl

theorem sequencePasses_iff {k : CellKind} (hk : k ≠ .idle) (h : BitVec 64) :
    sequencePasses k h = true ↔
      if k = .data ∨ k = .pad then (headerSequence h).toNat < 16776960 else headerSequence h = 0 := by
  unfold sequencePasses
  cases k with
  | idle => exact absurd rfl hk
  | data | pad => exact decide_eq_true_iff.trans (by simp [Config.hardLimit])
  | offer | accept | switch | request | resync | mark => simp [CellKind.controlLength]

theorem lengthPasses_iff (k : CellKind) (h : BitVec 64) :
    lengthPasses k h = true ↔
      if k = .data then 1 ≤ (headerLength h).toNat ∧ (headerLength h).toNat ≤ 48
      else (headerLength h).toNat = k.fixedLength := by
  unfold lengthPasses
  cases k <;> simp [CellKind.controlLength, CellKind.fixedLength]

theorem headerSound_iff {k : CellKind} (hk : k ≠ .idle) (h : BitVec 64) :
    headerSound k h = true ↔
      checkPasses h = true ∧ zeroPasses h = true ∧ kindOfCode (headerKindCode h) ≠ none ∧ (headerChannel h).toNat ≤ 47 ∧
        (if k = .data ∨ k = .pad then (headerSequence h).toNat < 16776960 else headerSequence h = 0) ∧
        (if k = .data then 1 ≤ (headerLength h).toNat ∧ (headerLength h).toNat ≤ 48
          else (headerLength h).toNat = k.fixedLength) := by
  have hkind : kindPasses h = true ↔ kindOfCode (headerKindCode h) ≠ none := Option.isSome_iff_ne_none
  have hchannel : channelPasses h = true ↔ (headerChannel h).toNat ≤ 47 := decide_eq_true_iff.trans Nat.lt_succ_iff
  simp only [headerSound, Bool.and_eq_true, hkind, hchannel, sequencePasses_iff hk, lengthPasses_iff, and_assoc]

/-! ## Cells that the part forms (R55 to R57) -/

@[simp] theorem cellPayload_sealCell (kTag : Block) (h : BitVec 64) (p : BitVec 384) :
    cellPayload (sealCell kTag h p) = p := by
  unfold cellPayload sealCell
  rw [BitVec.extractLsb'_append_extractLsb'_eq_extractLsb' (by decide),
    BitVec.extractLsb'_append_extractLsb'_eq_extractLsb' (by decide)]
  exact BitVec.extractLsb'_eq_self

@[simp] theorem tagValid_sealCell (kTag : Block) (h : BitVec 64) (p : BitVec 384) :
    tagValid kTag (sealCell kTag h p) = true := decide_eq_true rfl

@[simp] theorem sealCell_header (kTag : Block) (h : BitVec 64) (p : BitVec 384) : (sealCell kTag h p).header = h := rfl

/-- A header that the part writes for a channel names it. -/
theorem headerChannel_header_toNat (k : CellKind) (epoch : BitVec 8) (c : Fin 48) (sequence : BitVec 24)
    (length : BitVec 8) : (headerChannel (header k epoch c sequence length)).toNat = c.val := by
  rw [headerChannel_header, BitVec.toNat_ofNat]
  exact Nat.mod_eq_of_lt (by omega)

/-- A header that the part writes passes the six checks when its sequence and its length are its kind's. -/
theorem headerSound_header {k : CellKind} (hk : k ≠ .idle) (epoch : BitVec 8) (c : Fin 48) {sequence : BitVec 24}
    {length : BitVec 8} (hsequence : if k = .data ∨ k = .pad then sequence.toNat < 16776960 else sequence = 0)
    (hlength : if k = .data then 1 ≤ length.toNat ∧ length.toNat ≤ 48 else length.toNat = k.fixedLength) :
    headerSound k (header k epoch c sequence length) = true := by
  refine (headerSound_iff hk _).mpr ⟨checkPasses_header .., zeroPasses_header .., ?_, ?_, ?_, ?_⟩
  · rw [headerKindCode_header, kindOfCode_code]
    exact Option.some_ne_none k
  · rw [headerChannel_header_toNat]
    exact Nat.le_of_lt_succ c.isLt
  · rwa [headerSequence_header]
  · rwa [headerLength_header]

theorem trafficCell_isTraffic {k : CellKind} {length : Nat}
    (hk : (k = .data ∧ 1 ≤ length ∧ length ≤ 48) ∨ (k = .pad ∧ length = 0)) (key : KeyEntry) (c : Fin 48) {sequence : Nat}
    (hsequence : sequence < 16776960) (plain : BitVec 384) :
    isTraffic k c (trafficCell k key c sequence length plain) := by
  have hq : (BitVec.ofNat 24 sequence).toNat = sequence := Nat.mod_eq_of_lt (by omega)
  have hl : (BitVec.ofNat 8 length).toNat = length := Nat.mod_eq_of_lt (by omega)
  have htraffic : k = .data ∨ k = .pad := hk.imp And.left And.left
  refine ⟨htraffic, ?_, headerSound_header ?_ _ _ ?_ ?_, headerChannel_header_toNat ..⟩
  · exact (congrArg kindOfCode (headerKindCode_header ..)).trans (kindOfCode_code k)
  · rintro rfl
    simp at htraffic
  · rwa [if_pos htraffic, hq]
  · rw [hl]
    obtain ⟨rfl, hrange⟩ | ⟨rfl, rfl⟩ := hk
    · rwa [if_pos rfl]
    · rfl

theorem controlCell_isControl {k : CellKind} (hk : k.controlLength.isSome) (key : KeyEntry) (c : Fin 48)
    (payload : BitVec 384) :
    isControl k c (controlCell k key c payload) ∧ headerSound k (controlCell k key c payload).header = true := by
  have hnot : ¬ (k = .idle ∨ k = .data ∨ k = .pad) := by
    rintro (rfl | rfl | rfl) <;> cases hk
  have hfixed : k.controlLength = some k.fixedLength := by rw [controlLength_eq, if_neg hnot]
  obtain ⟨hidle, htraffic⟩ := not_or.mp hnot
  have hl : (BitVec.ofNat 8 (k.controlLength.getD 0)).toNat = k.fixedLength := by
    rw [hfixed]
    cases k <;> rfl
  refine ⟨⟨⟨?_, hk, checkPasses_header .., zeroPasses_header .., headerChannel_header_toNat ..⟩,
    headerSequence_header .., ?_⟩, headerSound_header hidle _ _ ?_ ?_⟩
  · exact (congrArg kindOfCode (headerKindCode_header ..)).trans (kindOfCode_code k)
  · rw [hfixed, ← hl]
    exact congrArg some (congrArg BitVec.toNat (headerLength_header ..)).symm
  · rw [if_neg htraffic]
  · rwa [if_neg fun h => htraffic (.inl h)]

/-! ## The keystream (R55) -/

/-- Two blocks of one key's keystream that are equal are the same block: B is a permutation. -/
theorem keystreamBlock_inj {keys : KeyPair} {e e' d d' j j' : BitVec 8} {c c' : Fin 48} {q q' : BitVec 24}
    (h : keystreamBlock { epoch := e, keys := keys } d c q j = keystreamBlock { epoch := e', keys := keys } d' c' q' j') :
    e = e' ∧ d = d' ∧ c = c' ∧ q = q' ∧ j = j' := by
  obtain ⟨h, -⟩ := append_inj ((Config.blockPerm keys.kEnc).injective h)
  obtain ⟨h, hj⟩ := append_inj h
  obtain ⟨h, hq⟩ := append_inj h
  obtain ⟨h, he⟩ := append_inj h
  obtain ⟨hd, hc⟩ := append_inj h
  refine ⟨he, hd, Fin.ext ?_, hq, hj⟩
  have hval := congrArg BitVec.toNat hc
  rw [BitVec.toNat_ofNat, BitVec.toNat_ofNat] at hval
  omega

/-- Settles O52: the layout by unfolding, the formed cells and the keystream by the lemmas above. -/
theorem formedCellsAreSound : Obligations.FormedCellsAreSound := by
  unfold Obligations.FormedCellsAreSound
  intro sumsTo255 zeros named lengthOf
  have hnamed : ∀ code, kindOfCode code = named code := kindOfCode_eq_find
  have hlength : ∀ k, lengthOf k = k.fixedLength := fun k => by cases k <;> rfl
  refine ⟨fun _ _ _ _ _ _ => ⟨rfl, rfl, rfl⟩, fun _ _ _ _ => ⟨fun _ => rfl, rfl⟩,
    fun _ _ => ⟨rfl, decide_eq_true_iff.trans eq_comm⟩, fun k epoch c sequence length => ?_,
    fun h => ⟨rfl, rfl, rfl, rfl, rfl, checkPasses_iff h, zeroPasses_iff h⟩, fun _ => ⟨hnamed _, rfl⟩,
    fun k _ => ⟨rfl, by rw [hlength, controlLength_eq]⟩, fun k h hk => ?_, fun k key c sequence length plain hk hq => ?_,
    fun k key c payload hk => ?_, fun _ _ _ _ _ _ _ _ _ _ _ => keystreamBlock_inj, rfl, rfl, rfl, rfl⟩
  · exact ⟨headerCheck (headerFront k epoch c sequence length), by cases k <;> rfl, checkPasses_header ..⟩
  · rw [headerSound_iff hk, checkPasses_iff, zeroPasses_iff, hnamed, hlength]
    rfl
  · refine ⟨trafficCell_isTraffic hk key c hq plain, headerEpochTag_header .., ?_, ?_, tagValid_sealCell .., ?_⟩
    · exact (congrArg BitVec.toNat (headerSequence_header ..)).trans (Nat.mod_eq_of_lt (by omega))
    · exact (congrArg BitVec.toNat (headerLength_header ..)).trans (Nat.mod_eq_of_lt (by omega))
    · rw [trafficCell, cellPayload_sealCell, BitVec.xor_assoc, BitVec.xor_self, BitVec.xor_zero]
  · obtain ⟨hcontrol, hsound⟩ := controlCell_isControl hk key c payload
    exact ⟨hcontrol, hsound, headerEpochTag_header .., tagValid_sealCell .., cellPayload_sealCell ..⟩

end Sys2Proof.Machine
end

section
/-! PROOFS. What each work of a tick makes of its channel's record, and what the works of a list make of one record in
whatever order they come. -/

namespace Sys2Proof.Machine

/-! ## A trigger on the record (R101, R103) -/

/-- A record whose renewal starts where R103's conditions hold, with a nonce for it. -/
def Channel.startedIfDue (r : Channel) (retries : Nat) (nonce : BitVec 64) : Channel :=
  if r.startDue then r.startRenewal retries nonce else r

/-- A record that a trigger has reached, with a nonce for the renewal it may start. -/
def Channel.triggered (r : Channel) (retries : Nat) (nonce : BitVec 64) (k : Cause) : Channel :=
  if r.triggerable then (r.note k).startedIfDue retries nonce else r

theorem startIfDue_chan_eq (s : State) (c : Fin 48) :
    (s.startIfDue c).chan c = (s.chan c).startedIfDue s.renewalParams.retryLimit s.nextNonce := startIfDue_chan s c

theorem trigger_chan_eq (s : State) (c : Fin 48) (k : Cause) :
    (s.trigger c k).chan c = (s.chan c).triggered s.renewalParams.retryLimit s.nextNonce k := by
  unfold Channel.triggered
  by_cases h : (s.chan c).triggerable = true
  · rw [trigger_chan h, if_pos h]
    rfl
  · rw [State.trigger, if_neg h, if_neg h]

/-! ## The record that a work leaves -/

/-- The base entry that a record's bound master slot and shop code give to channel c (R116). -/
def State.baseOf (s : State) (c : Fin 48) (r : Channel) : Option KeyEntry :=
  match s.masterKey r, r.shop with
  | some m, some shop => some (baseEntry m c shop)
  | _, _ => none

/-- What a work makes of its channel's record, with a nonce for the renewal that it may start. -/
def State.worked (s : State) (nonce : BitVec 64) : TickWork → Channel → Channel
  | .keyingEntry c, r =>
    if r.state = .opening then (r.enterKeying (s.baseOf c r)).triggered s.renewalParams.retryLimit nonce .initial else r
  | .closingEnd _, r => if r.state = .closing then Channel.closedValues else r
  | .ageTrigger _, r => if r.ageReached then r.triggered s.renewalParams.retryLimit nonce .age else r
  | .holdOffEnd _, r => r.startedIfDue s.renewalParams.retryLimit nonce
  | .offerExpiry _, r =>
    if r.offerTimer = some 0 then
      if 0 < r.renewRetries then r.requeueOffer else r.failRenewal s.renewalParams.tOffer
    else r
  | .resyncExpiry _, r =>
    if r.resyncTimer = some 0 then
      if 0 < r.resyncRetries then r.requeueResync
      else r.endExchange.triggered s.renewalParams.retryLimit nonce .resync
    else r
  | .cutoverExpiry _, r =>
    if r.cutoverDue then r.endCutover.startedIfDue s.renewalParams.retryLimit nonce else r
  | .silence _, r => if r.quality.silent s.qualityParams.silenceLimit then Channel.closedValues else r
  | .score _, r => if r.state = .closed then r else r.scored s.qualityParams
  | .presence _, r => r

theorem cutoverExpired_eq (s : State) (c : Fin 48) :
    s.cutoverExpired c =
      if (s.chan c).cutoverDue then (s.modChan c Channel.endCutover).startIfDue c else s := by
  unfold State.cutoverExpired Channel.cutoverDue
  cases (s.chan c).previous with
  | none => rfl
  | some p => by_cases h : p.cutover = 0 <;> simp [h]

theorem scoreChannel_chan_eq (s : State) (c : Fin 48) :
    (s.scoreChannel c).chan c =
      if (s.chan c).state = .closed then s.chan c else (s.chan c).scored s.qualityParams := by
  by_cases h : (s.chan c).state = .closed
  · rw [if_pos h, State.scoreChannel, if_pos h]
  · rw [if_neg h, scoreChannel_of_open h]
    split
    · exact chan_setChan_same ..
    · exact chan_setChan_same s c _

theorem work_chan (s : State) {w : TickWork} {c : Fin 48} (h : workChannel w = some c) :
    (s.work w).chan c = s.worked s.nextNonce w (s.chan c) := by
  cases w with
  | presence p => cases h
  | keyingEntry d =>
    obtain rfl := Option.some.inj h
    simp only [State.work, State.keyingEntry, State.worked]
    split
    · rw [trigger_chan_eq, chan_modChan_same]
      rfl
    · rfl
  | closingEnd d =>
    obtain rfl := Option.some.inj h
    exact closingEnd_chan s d
  | ageTrigger d =>
    obtain rfl := Option.some.inj h
    simp only [State.work, State.judgeAge, State.worked]
    split
    · exact trigger_chan_eq ..
    · rfl
  | holdOffEnd d =>
    obtain rfl := Option.some.inj h
    exact startIfDue_chan_eq s d
  | offerExpiry d =>
    obtain rfl := Option.some.inj h
    simp only [State.work, State.offerExpired, State.worked]
    split_ifs
    · exact chan_modChan_same ..
    · exact chan_modChan_same ..
    · rfl
  | resyncExpiry d =>
    obtain rfl := Option.some.inj h
    simp only [State.work, State.resyncExpired, State.worked]
    split_ifs
    · exact chan_modChan_same ..
    · rw [trigger_chan_eq, State.raiseFor, raise_chan, chan_modChan_same]
      rfl
    · rfl
  | cutoverExpiry d =>
    obtain rfl := Option.some.inj h
    simp only [State.work, cutoverExpired_eq, State.worked]
    split_ifs
    · rw [startIfDue_chan_eq, chan_modChan_same]
      rfl
    · rfl
  | silence d =>
    obtain rfl := Option.some.inj h
    exact judgeSilence_chan s d
  | score d =>
    obtain rfl := Option.some.inj h
    exact scoreChannel_chan_eq s d

/-- Two states with the same parameters and master keys: a work makes the same of a record in both. -/
structure State.Alike (s u : State) : Prop where
  renewalParams : u.renewalParams = s.renewalParams
  qualityParams : u.qualityParams = s.qualityParams
  presencePeriod : u.presencePeriod = s.presencePeriod
  masters : u.masters = s.masters

theorem State.Alike.refl (s : State) : s.Alike s := ⟨rfl, rfl, rfl, rfl⟩

theorem State.Alike.work {s u : State} (h : s.Alike u) (w : TickWork) : s.Alike (u.work w) := by
  obtain ⟨-, -, hmasters, -, hrenewal, hquality, hpresence, -⟩ := work_blocks u w
  exact ⟨hrenewal.trans h.renewalParams, hquality.trans h.qualityParams, hpresence.trans h.presencePeriod,
    hmasters.trans h.masters⟩

theorem State.Alike.worked {s u : State} (h : s.Alike u) (nonce : BitVec 64) (w : TickWork) (r : Channel) :
    u.worked nonce w r = s.worked nonce w r := by
  have hbase : ∀ c, u.baseOf c r = s.baseOf c r := fun c => by
    simp only [State.baseOf, State.masterKey, h.masters]
  cases w <;> simp only [State.worked, h.renewalParams, h.qualityParams, hbase]

/-! ## The works of a list on one record -/

/-- The record r' is what the works of a list make of the record r one after the other, whatever nonces the source gives. -/
def State.WorksTo (s : State) : List TickWork → Channel → Channel → Prop
  | [], r, r' => r' = r
  | w :: ws, r, r' => ∃ nonce : BitVec 64, nonce ≠ 0 ∧ s.WorksTo ws (s.worked nonce w r) r'

/-- The works of channel c in a list. -/
def worksOf (c : Fin 48) (ws : List TickWork) : List TickWork := ws.filter (fun w => decide (workChannel w = some c))

theorem mem_worksOf {c : Fin 48} {ws : List TickWork} {w : TickWork} :
    w ∈ worksOf c ws ↔ w ∈ ws ∧ workChannel w = some c := by simp [worksOf]

theorem carryOut_worksTo {s u : State} (h : s.Alike u) (c : Fin 48) (ws : List TickWork) :
    s.WorksTo (worksOf c ws) (u.chan c) ((u.carryOut ws).chan c) := by
  induction ws generalizing u with
  | nil => rfl
  | cons w ws ih =>
    have hrest := ih (h.work w)
    by_cases hw : workChannel w = some c
    · have hcons : worksOf c (w :: ws) = w :: worksOf c ws := List.filter_cons_of_pos (by simpa using hw)
      rw [hcons]
      rw [work_chan u hw, h.worked] at hrest
      exact ⟨u.nextNonce, nextNonce_ne_zero u, hrest⟩
    · have hcons : worksOf c (w :: ws) = worksOf c ws := List.filter_cons_of_neg (by simpa using hw)
      rw [hcons]
      rwa [work_chan_of_other u hw] at hrest

/-! ## Scoring may be taken first -/

/-- The works that a channel may have beside its scoring without losing its records or its silence count. -/
def scorable : TickWork → Bool
  | .ageTrigger _ => true
  | .holdOffEnd _ => true
  | .offerExpiry _ => true
  | .resyncExpiry _ => true
  | .cutoverExpiry _ => true
  | .keyingEntry _ => false
  | .closingEnd _ => false
  | .silence _ => false
  | .score _ => false
  | .presence _ => false

theorem startedIfDue_scored (r : Channel) (p : QualityParams) (retries : Nat) (nonce : BitVec 64) :
    (r.scored p).startedIfDue retries nonce = (r.startedIfDue retries nonce).scored p := by
  have hdue : (r.scored p).startDue = r.startDue := rfl
  unfold Channel.startedIfDue
  rw [hdue]
  split <;> rfl

theorem triggered_scored (r : Channel) (p : QualityParams) (retries : Nat) (nonce : BitVec 64) (k : Cause) :
    (r.scored p).triggered retries nonce k = (r.triggered retries nonce k).scored p := by
  have hdue : (r.scored p).triggerable = r.triggerable := rfl
  unfold Channel.triggered
  rw [hdue]
  split
  · exact startedIfDue_scored (r.note k) p retries nonce
  · rfl

theorem requeueOffer_scored (r : Channel) (p : QualityParams) :
    (r.scored p).requeueOffer = r.requeueOffer.scored p := by
  have hpending : (r.scored p).pendingEntry = r.pendingEntry := rfl
  unfold Channel.requeueOffer
  rw [hpending]
  cases r.pendingEntry <;> rfl

theorem requeueResync_scored (r : Channel) (p : QualityParams) :
    (r.scored p).requeueResync = r.requeueResync.scored p := by
  have hchallenge : (r.scored p).challenge = r.challenge := rfl
  unfold Channel.requeueResync
  rw [hchallenge]
  cases r.challenge <;> rfl

/-- Scoring a record before or after another of its works makes no difference. -/
theorem worked_scored (s : State) (nonce : BitVec 64) {w : TickWork} (hw : scorable w = true) (r : Channel)
    (p : QualityParams) : s.worked nonce w (r.scored p) = (s.worked nonce w r).scored p := by
  cases w with
  | keyingEntry | closingEnd | silence | score | presence => cases hw
  | ageTrigger =>
    have hdue : (r.scored p).ageReached = r.ageReached := rfl
    simp only [State.worked, hdue, triggered_scored]
    split <;> rfl
  | holdOffEnd => exact startedIfDue_scored ..
  | offerExpiry =>
    have hdue : (r.scored p).offerTimer = r.offerTimer ∧ (r.scored p).renewRetries = r.renewRetries := ⟨rfl, rfl⟩
    simp only [State.worked, hdue, requeueOffer_scored]
    split_ifs <;> rfl
  | resyncExpiry =>
    have hdue : (r.scored p).resyncTimer = r.resyncTimer ∧ (r.scored p).resyncRetries = r.resyncRetries := ⟨rfl, rfl⟩
    have hended : (r.scored p).endExchange = r.endExchange.scored p := rfl
    simp only [State.worked, hdue, requeueResync_scored, hended, triggered_scored]
    split_ifs <;> rfl
  | cutoverExpiry =>
    have hdue : (r.scored p).cutoverDue = r.cutoverDue := rfl
    have hended : (r.scored p).endCutover = r.endCutover.scored p := rfl
    simp only [State.worked, hdue, hended, startedIfDue_scored]
    split_ifs <;> rfl

theorem startedIfDue_state (r : Channel) (retries : Nat) (nonce : BitVec 64) :
    (r.startedIfDue retries nonce).state = r.state := by
  unfold Channel.startedIfDue
  split <;> rfl

theorem triggered_state (r : Channel) (retries : Nat) (nonce : BitVec 64) (k : Cause) :
    (r.triggered retries nonce k).state = r.state := by
  unfold Channel.triggered
  split
  · exact startedIfDue_state (r.note k) retries nonce
  · rfl

theorem worked_state (s : State) (nonce : BitVec 64) {w : TickWork} (hw : scorable w = true) (r : Channel) :
    (s.worked nonce w r).state = r.state := by
  cases w with
  | keyingEntry | closingEnd | silence | score | presence => cases hw
  | ageTrigger =>
    rw [State.worked]
    split
    · exact triggered_state ..
    · rfl
  | holdOffEnd => exact startedIfDue_state ..
  | offerExpiry =>
    rw [State.worked, Channel.requeueOffer]
    cases r.pendingEntry <;> split_ifs <;> rfl
  | resyncExpiry =>
    rw [State.worked, Channel.requeueResync]
    split_ifs
    · cases r.challenge <;> rfl
    · exact triggered_state r.endExchange ..
    · rfl
  | cutoverExpiry =>
    rw [State.worked]
    split
    · exact startedIfDue_state r.endCutover ..
    · rfl

/-- The scoring of a channel may be taken before its other works. -/
theorem WorksTo.score_first {s : State} {c : Fin 48} {ws : List TickWork} {r r' : Channel} (hopen : r.state ≠ .closed)
    (hws : ∀ w ∈ ws, w ≠ .score c → scorable w = true) (hnodup : ws.Nodup) (hscore : .score c ∈ ws)
    (h : s.WorksTo ws r r') : s.WorksTo (ws.erase (.score c)) (r.scored s.qualityParams) r' := by
  induction ws generalizing r with
  | nil => cases hscore
  | cons w ws ih =>
    obtain ⟨nonce, hnonce, h⟩ := h
    by_cases hw : w = .score c
    · subst hw
      rw [List.erase_cons_head]
      rwa [State.worked, if_neg hopen] at h
    · have hwork := hws w List.mem_cons_self hw
      rw [List.erase_cons_tail (by simpa using hw)]
      refine ⟨nonce, hnonce, ?_⟩
      rw [worked_scored s nonce hwork]
      exact ih (by rwa [worked_state s nonce hwork]) (fun v hv => hws v (List.mem_cons_of_mem w hv))
        (List.nodup_cons.mp hnodup).2 ((List.mem_cons.mp hscore).resolve_left fun e => hw e.symm) h

/-! ## The works of a tick on one record -/

/-- The works that a tick of either kind brings. -/
def State.dueWorks (s : State) (kind : TickKind) : List TickWork := (s.advance kind).works kind s.periodDue

/-- The record of a channel whose counts have advanced and which the period end has scored. -/
def State.afterPeriod (s : State) (kind : TickKind) (c : Fin 48) : Channel :=
  if .score c ∈ s.dueWorks kind then ((s.chan c).tick kind).scored s.qualityParams else (s.chan c).tick kind

/-- The works of a tick on one record, its scoring apart, in some order, each once. -/
theorem tick_worksTo (s : State) (kind : TickKind) (order : List TickWork) (c : Fin 48)
    (h : ∀ w ∈ s.dueWorks kind, workChannel w = some c → w ≠ .score c → scorable w = true) :
    ∃ us : List TickWork, us.Nodup ∧ (∀ w, w ∈ us ↔ w ∈ s.dueWorks kind ∧ workChannel w = some c ∧ w ≠ .score c) ∧
      s.WorksTo us (s.afterPeriod kind c) ((s.tick kind order).chan c) := by
  have halike : s.Alike (s.advance kind) := ⟨rfl, rfl, rfl, rfl⟩
  have hworks := carryOut_worksTo halike c (inOrder order (s.dueWorks kind))
  rw [advance_chan] at hworks
  have hmem : ∀ w, w ∈ worksOf c (inOrder order (s.dueWorks kind)) ↔ w ∈ s.dueWorks kind ∧ workChannel w = some c :=
    fun w => by rw [mem_worksOf, mem_inOrder]
  have hnodup : (worksOf c (inOrder order (s.dueWorks kind))).Nodup :=
    ((inOrder_perm order _).nodup_iff.mpr (works_nodup ..)).filter _
  by_cases hscore : .score c ∈ s.dueWorks kind
  · have hopen : ((s.chan c).tick kind).state ≠ .closed := by
      have := ((mem_works ..).mp hscore).2
      rwa [advance_chan] at this
    refine ⟨_, hnodup.erase (.score c), fun w => ?_, ?_⟩
    · rw [hnodup.mem_erase_iff, hmem]
      tauto
    · rw [State.afterPeriod, if_pos hscore]
      exact WorksTo.score_first hopen (fun w hw => h w ((hmem w).mp hw).1 ((hmem w).mp hw).2) hnodup
        ((hmem _).mpr ⟨hscore, rfl⟩) hworks
  · refine ⟨_, hnodup, fun w => ?_, ?_⟩
    · rw [hmem]
      exact ⟨fun ⟨hw, hc⟩ => ⟨hw, hc, fun e => hscore (e ▸ hw)⟩, fun ⟨hw, hc, _⟩ => ⟨hw, hc⟩⟩
    · rwa [State.afterPeriod, if_neg hscore]

end Sys2Proof.Machine
end

section
/-! PROOFS. One work of a tick on a record, alone or beside the AGE trigger, in either order. -/

namespace Sys2Proof.Machine

/-! ## Starts and the AGE trigger on a record (R101 to R103) -/

theorem startDue_iff_exists (r : Channel) :
    r.startDue = true ↔
      (r.state = .keying ∨ r.state = .active) ∧ r.renewal = .idle ∧
        ∃ k, r.wanted = some k ∧ (r.holdOff = 0 ∨ k.forcing = true) := by
  unfold Channel.startDue Channel.triggerable
  cases r.wanted <;> simp [and_assoc]

theorem startedIfDue_of_due {r : Channel} (h : r.startDue = true) (retries : Nat) (nonce : BitVec 64) :
    r.startedIfDue retries nonce = r.startRenewal retries nonce := if_pos h

theorem startedIfDue_of_not_due {r : Channel} (h : r.startDue = false) (retries : Nat) (nonce : BitVec 64) :
    r.startedIfDue retries nonce = r := if_neg (by rw [h]; exact Bool.false_ne_true)

/-- A renewal in progress is not started again. -/
theorem startDue_of_running {r : Channel} (h : r.renewal ≠ .idle) : r.startDue = false := by
  simp [Channel.startDue, h]

/-- The AGE trigger has its effect on a record: the age limit is reached on a channel that triggers reach. -/
def Channel.reached (r : Channel) : Bool := r.ageReached && r.triggerable

/-- The flag of a record after the AGE trigger. -/
def Channel.wantedAfterAge (r : Channel) : Option Cause := if r.reached then some (r.wanted.getD .age) else r.wanted

/-- The record after an AGE trigger that starts nothing. -/
def Channel.agedFlag (r : Channel) : Channel := { r with wanted := r.wantedAfterAge }

theorem agedFlag_of_reached {r : Channel} (h : r.reached = true) :
    r.agedFlag = { r with wanted := some (r.wanted.getD .age) } := by
  rw [Channel.agedFlag, Channel.wantedAfterAge, if_pos h]

theorem agedFlag_of_not_reached {r : Channel} (h : r.reached = false) : r.agedFlag = r := by
  rw [Channel.agedFlag, Channel.wantedAfterAge, h]
  rfl

/-- The AGE trigger leaves its cause on the flag of the record, and a renewal starts where one is then due. -/
theorem worked_age (s : State) (nonce : BitVec 64) (c : Fin 48) (r : Channel) :
    s.worked nonce (.ageTrigger c) r =
      if r.reached then r.agedFlag.startedIfDue s.renewalParams.retryLimit nonce else r := by
  unfold State.worked Channel.triggered Channel.reached
  by_cases hage : r.ageReached = true
  · by_cases hkeyed : r.triggerable = true
    · have hflag : r.agedFlag = r.note .age := agedFlag_of_reached (by rw [Channel.reached, hage, hkeyed]; rfl)
      rw [hflag]
      simp only [hage, hkeyed, Bool.and_true, if_true]
    · simp [hage, hkeyed]
  · simp [hage]

/-- The AGE trigger on a record whose flag does not then make a start due. -/
theorem worked_age_of_not_due {r : Channel} (h : r.agedFlag.startDue = false) (s : State) (nonce : BitVec 64)
    (c : Fin 48) : s.worked nonce (.ageTrigger c) r = r.agedFlag := by
  rw [worked_age, startedIfDue_of_not_due h]
  split
  · rfl
  · next hno => exact (agedFlag_of_not_reached (Bool.eq_false_iff.mpr hno)).symm

/-- During a renewal the AGE trigger touches the flag alone. -/
theorem worked_age_of_running {r : Channel} (h : r.renewal ≠ .idle) (s : State) (nonce : BitVec 64) (c : Fin 48) :
    s.worked nonce (.ageTrigger c) r = r.agedFlag :=
  worked_age_of_not_due (startDue_of_running (r := r.agedFlag) h) s nonce c

/-- A flag that has its cause keeps it. -/
theorem agedFlag_of_wanted {r : Channel} {k : Cause} (h : r.wanted = some k) : r.agedFlag = r := by
  have hwanted : r.wantedAfterAge = r.wanted := by
    rw [Channel.wantedAfterAge, h]
    split <;> rfl
  rw [Channel.agedFlag, hwanted]

/-- The AGE trigger makes a start due on a record with none due exactly when it finds IDLE, the hold-off over. -/
theorem agedFlag_startDue_iff {r : Channel} (hnone : r.startDue = false) :
    r.agedFlag.startDue = true ↔ r.reached = true ∧ r.renewal = .idle ∧ r.holdOff = 0 := by
  constructor
  · intro hdue
    by_cases hreached : r.reached = true
    · obtain ⟨hkeyed, hidle, k, hk, hstart⟩ := (startDue_iff_exists _).mp hdue
      cases hwanted : r.wanted with
      | some k' => simp [agedFlag_of_wanted hwanted, hnone] at hdue
      | none =>
        rw [agedFlag_of_reached hreached, hwanted] at hk
        obtain rfl := Option.some.inj hk
        exact ⟨hreached, hidle, hstart.resolve_right (by decide)⟩
    · rw [agedFlag_of_not_reached (Bool.eq_false_iff.mpr hreached), hnone] at hdue
      cases hdue
  · rintro ⟨hreached, hidle, hhold⟩
    rw [agedFlag_of_reached hreached]
    exact (startDue_iff_exists _).mpr
      ⟨(triggerable_iff r).mp (Bool.and_eq_true_iff.mp hreached).2, hidle, _, rfl, .inl hhold⟩

/-- Where the AGE trigger makes a start due, the flag was clear. -/
theorem wanted_of_agedFlag_startDue {r : Channel} (hnone : r.startDue = false) (hdue : r.agedFlag.startDue = true) :
    r.wanted = none := by
  cases hwanted : r.wanted with
  | none => rfl
  | some k => simp [agedFlag_of_wanted hwanted, hnone] at hdue

/-! ## One work, alone or beside the AGE trigger -/

/-- The record r' is what one work of channel c makes of the record r, with the AGE trigger before it or after it where the
age limit is reached. -/
def State.WorksBeside (s : State) (c : Fin 48) (w : TickWork) (r r' : Channel) : Prop :=
  ∃ n m : BitVec 64, n ≠ 0 ∧ m ≠ 0 ∧
    ((r.ageReached = false ∧ r' = s.worked n w r) ∨
      (r.ageReached = true ∧ r' = s.worked m (.ageTrigger c) (s.worked n w r)) ∨
      (r.ageReached = true ∧ r' = s.worked m w (s.worked n (.ageTrigger c) r)))

section
variable {s : State} {c : Fin 48} {r r' : Channel}

/-- A renewal that starts keeps its cause when the age limit is reached. -/
theorem startRenewal_agedFlag {k : Cause} (h : r.wanted = some k) (retries : Nat) (nonce : BitVec 64) :
    (r.startRenewal retries nonce).agedFlag = r.startRenewal retries nonce :=
  agedFlag_of_wanted (r := r.startRenewal retries nonce) h

theorem startRenewal_running (retries : Nat) (nonce : BitVec 64) : (r.startRenewal retries nonce).renewal ≠ .idle := by
  rw [show (r.startRenewal retries nonce).renewal = .offered from rfl]
  decide

/-- The end of the hold-off starts the renewal, whatever the AGE trigger does. -/
theorem WorksBeside.holdOffEnd (h : s.WorksBeside c (.holdOffEnd c) r r') (hdue : r.startDue = true) :
    ∃ n : BitVec 64, n ≠ 0 ∧ r' = r.startRenewal s.renewalParams.retryLimit n := by
  obtain ⟨-, -, k, hk, -⟩ := (startDue_iff_exists r).mp hdue
  have hstart : ∀ n, s.worked n (.holdOffEnd c) r = r.startRenewal s.renewalParams.retryLimit n :=
    fun n => startedIfDue_of_due hdue _ n
  obtain ⟨n, m, hn, hm, ⟨-, rfl⟩ | ⟨-, rfl⟩ | ⟨-, rfl⟩⟩ := h
  · exact ⟨n, hn, hstart n⟩
  · exact ⟨n, hn, by rw [hstart, worked_age_of_running (startRenewal_running _ _), startRenewal_agedFlag hk]⟩
  · rw [worked_age, agedFlag_of_wanted hk, startedIfDue_of_due hdue]
    split
    · exact ⟨n, hn, startedIfDue_of_not_due (startDue_of_running (startRenewal_running _ _)) _ m⟩
    · exact ⟨m, hm, hstart m⟩

/-- The AGE trigger's mark on the flag and the OFFER queued again do not touch each other. -/
theorem requeueOffer_agedFlag (r : Channel) : r.requeueOffer.agedFlag = r.agedFlag.requeueOffer := by
  have hpending : r.agedFlag.pendingEntry = r.pendingEntry := rfl
  unfold Channel.requeueOffer
  rw [hpending]
  cases r.pendingEntry <;> rfl

theorem requeueOffer_renewal (r : Channel) : r.requeueOffer.renewal = r.renewal := by
  unfold Channel.requeueOffer
  cases r.pendingEntry <;> rfl

theorem agedFlag_of_not_ageReached {r : Channel} (h : r.ageReached = false) : r.agedFlag = r :=
  agedFlag_of_not_reached (by rw [Channel.reached, h]; rfl)

/-- The offer timer's expiry with retries left. -/
theorem WorksBeside.offerExpiry_again (h : s.WorksBeside c (.offerExpiry c) r r') (hdue : r.offerTimer = some 0)
    (hretries : 0 < r.renewRetries) (hage : r.ageReached = true → r.renewal ≠ .idle) : r' = r.agedFlag.requeueOffer := by
  have hagain : ∀ n, ∀ x : Channel, x.offerTimer = some 0 → 0 < x.renewRetries →
      s.worked n (.offerExpiry c) x = x.requeueOffer := fun n x hx hr => by rw [State.worked, if_pos hx, if_pos hr]
  obtain ⟨n, m, -, -, ⟨hno, rfl⟩ | ⟨hyes, rfl⟩ | ⟨hyes, rfl⟩⟩ := h
  · rw [hagain n r hdue hretries, agedFlag_of_not_ageReached hno]
  · rw [hagain n r hdue hretries, ← requeueOffer_agedFlag]
    exact worked_age_of_running (by rw [requeueOffer_renewal]; exact hage hyes) s m c
  · rw [worked_age_of_running (hage hyes)]
    exact hagain m _ hdue hretries

/-- The failure of a renewal leaves a standing cause on the flag, which the AGE trigger keeps, and a hold-off in which a
renewal for that cause does not start. -/
theorem failRenewal_agedFlag (h : r.ageReached = true) (tOffer : Nat) :
    (r.failRenewal tOffer).agedFlag = r.failRenewal tOffer := by
  obtain ⟨k, hk⟩ : ∃ k, r.standingCause = some k := by
    rw [Channel.standingCause, if_pos h]
    split
    · exact ⟨_, rfl⟩
    · exact ⟨_, rfl⟩
  exact agedFlag_of_wanted (r := r.failRenewal tOffer) hk

theorem standingCause_not_forcing {k : Cause} (h : r.standingCause = some k) : k.forcing = false := by
  unfold Channel.standingCause at h
  split_ifs at h <;> obtain rfl := Option.some.inj h <;> rfl

theorem failRenewal_startDue {tOffer : Nat} (h : tOffer ≠ 0) : (r.failRenewal tOffer).startDue = false := by
  refine Bool.eq_false_iff.mpr fun hdue => ?_
  obtain ⟨-, -, k, hk, hhold | hforcing⟩ := (startDue_iff_exists _).mp hdue
  · have : 8 * tOffer = 0 := hhold
    omega
  · rw [standingCause_not_forcing hk] at hforcing
    cases hforcing

/-- The offer timer's expiry with no retry left. -/
theorem WorksBeside.offerExpiry_failed (h : s.WorksBeside c (.offerExpiry c) r r') (hdue : r.offerTimer = some 0)
    (hretries : r.renewRetries = 0) (hage : r.ageReached = true → r.renewal ≠ .idle ∧ s.renewalParams.tOffer ≠ 0) :
    r' = r.failRenewal s.renewalParams.tOffer := by
  have hfailed : ∀ n, ∀ x : Channel, x.offerTimer = some 0 → x.renewRetries = 0 →
      s.worked n (.offerExpiry c) x = x.failRenewal s.renewalParams.tOffer :=
    fun n x hx hr => by rw [State.worked, if_pos hx, if_neg (by omega)]
  obtain ⟨n, m, -, -, ⟨-, rfl⟩ | ⟨hyes, rfl⟩ | ⟨hyes, rfl⟩⟩ := h
  · exact hfailed n r hdue hretries
  · rw [hfailed n r hdue hretries, worked_age_of_not_due] <;> rw [failRenewal_agedFlag hyes]
    exact failRenewal_startDue (hage hyes).2
  · rw [worked_age_of_running (hage hyes).1]
    exact hfailed m r.agedFlag hdue hretries

/-- The AGE trigger's mark on the flag and the RESYNC queued again do not touch each other. -/
theorem requeueResync_agedFlag (r : Channel) : r.requeueResync.agedFlag = r.agedFlag.requeueResync := by
  have hchallenge : r.agedFlag.challenge = r.challenge := rfl
  unfold Channel.requeueResync
  rw [hchallenge]
  cases r.challenge <;> rfl

theorem requeueResync_startDue (r : Channel) : r.requeueResync.startDue = r.startDue := by
  unfold Channel.requeueResync
  cases r.challenge <;> rfl

theorem requeueResync_reached (r : Channel) : r.requeueResync.reached = r.reached := by
  unfold Channel.requeueResync
  cases r.challenge <;> rfl

/-- The resync timer's expiry with retries left: the AGE trigger may start a renewal beside it. -/
theorem WorksBeside.resyncExpiry_again (h : s.WorksBeside c (.resyncExpiry c) r r') (hdue : r.resyncTimer = some 0)
    (hretries : 0 < r.resyncRetries) :
    (r.agedFlag.startDue = false → r' = r.agedFlag.requeueResync) ∧
      (r.agedFlag.startDue = true → r.reached = true → ∃ n : BitVec 64, n ≠ 0 ∧
        (r' = r.agedFlag.requeueResync.startRenewal s.renewalParams.retryLimit n ∨
          r' = (r.agedFlag.startRenewal s.renewalParams.retryLimit n).requeueResync)) := by
  have hagain : ∀ n, ∀ x : Channel, x.resyncTimer = some 0 → 0 < x.resyncRetries →
      s.worked n (.resyncExpiry c) x = x.requeueResync := fun n x hx hr => by rw [State.worked, if_pos hx, if_pos hr]
  obtain ⟨n, m, hn, hm, ⟨hno, rfl⟩ | ⟨hyes, rfl⟩ | ⟨hyes, rfl⟩⟩ := h
  · rw [hagain n r hdue hretries, agedFlag_of_not_ageReached hno]
    refine ⟨fun _ => rfl, fun _ hreached => ?_⟩
    rw [Channel.reached, hno] at hreached
    cases hreached
  · rw [hagain n r hdue hretries, worked_age, requeueResync_agedFlag, requeueResync_reached]
    refine ⟨fun hnot => ?_, fun hstart hreached => ⟨m, hm, .inl ?_⟩⟩
    · rw [startedIfDue_of_not_due (by rw [requeueResync_startDue, hnot])]
      split
      · rfl
      · next hno => rw [agedFlag_of_not_reached (Bool.eq_false_iff.mpr hno)]
    · rw [if_pos hreached, startedIfDue_of_due (by rw [requeueResync_startDue, hstart])]
  · refine ⟨fun hnot => ?_, fun hstart hreached => ⟨n, hn, .inr ?_⟩⟩
    · rw [worked_age_of_not_due hnot]
      exact hagain m r.agedFlag hdue hretries
    · rw [worked_age, if_pos hreached, startedIfDue_of_due hstart]
      exact hagain m (r.agedFlag.startRenewal _ n) hdue hretries

/-- A RESYNC trigger on the record: its cause goes on the flag, and a renewal starts in IDLE. -/
theorem triggered_resync (r : Channel) (retries : Nat) (nonce : BitVec 64) :
    r.triggered retries nonce .resync =
      if r.triggerable then
        if r.renewal = .idle then ({ r with wanted := some .resync }).startRenewal retries nonce
        else { r with wanted := some .resync }
      else r := by
  unfold Channel.triggered
  by_cases hkeyed : r.triggerable = true
  · rw [if_pos hkeyed, if_pos hkeyed]
    by_cases hidle : r.renewal = .idle
    · rw [if_pos hidle]
      exact startedIfDue_of_due (r := r.note .resync)
        ((startDue_iff_exists _).mpr ⟨(triggerable_iff r).mp hkeyed, hidle, _, rfl, .inr rfl⟩) ..
    · rw [if_neg hidle]
      exact startedIfDue_of_not_due (startDue_of_running (r := r.note .resync) hidle) ..
  · rw [if_neg hkeyed, if_neg hkeyed]

/-- The end of an exchange and an OFFER that is queued do not touch each other. -/
theorem filter_enqueue_offer (epoch : BitVec 8) (nonce : BitVec 64) (cells : List ControlCell) :
    (enqueue (.offer epoch nonce) cells).filter (fun x => decide (x.family ≠ .challenge)) =
      enqueue (.offer epoch nonce) (cells.filter (fun x => decide (x.family ≠ .challenge))) := by
  have hoffer : (ControlCell.offer epoch nonce).family = .renewal := rfl
  have hany : (cells.filter (fun x => decide (x.family ≠ .challenge))).any (fun x => decide (x.family = .renewal)) =
      cells.any (fun x => decide (x.family = .renewal)) := by
    rw [List.any_filter]
    congr 1
    funext x
    cases x.family <;> rfl
  unfold enqueue
  rw [hoffer, hany]
  split
  · rw [List.filter_map]
    congr 1
    refine List.filter_congr fun x _ => ?_
    by_cases hx : x.family = .renewal
    · simp [hx, hoffer]
    · simp [hx]
  · rw [List.filter_append]
    rfl

theorem startRenewal_endExchange (r : Channel) (retries : Nat) (nonce : BitVec 64) :
    (r.startRenewal retries nonce).endExchange = r.endExchange.startRenewal retries nonce := by
  have hcells := filter_enqueue_offer r.newEpoch nonce r.pendingCells
  have hleft : (r.startRenewal retries nonce).endExchange =
      { r.endExchange.startRenewal retries nonce with
        pendingCells := (enqueue (.offer r.newEpoch nonce) r.pendingCells).filter
          (fun x => decide (x.family ≠ .challenge)) } := rfl
  rw [hleft, hcells]
  rfl

/-- The resync timer's expiry with no retry left: the AGE trigger may start the renewal before the RESYNC trigger does, and
leaves the RESYNC cause. -/
theorem WorksBeside.resyncExpiry_ended (h : s.WorksBeside c (.resyncExpiry c) r r') (hdue : r.resyncTimer = some 0)
    (hretries : r.resyncRetries = 0) :
    (r.triggerable = false → r' = r.endExchange) ∧
      (r.triggerable = true → r.renewal = .idle → ∃ n : BitVec 64, n ≠ 0 ∧
        r' = ({ r.endExchange with wanted := some .resync }).startRenewal s.renewalParams.retryLimit n) ∧
      (r.triggerable = true → r.renewal ≠ .idle → r' = { r.endExchange with wanted := some .resync }) := by
  have hended : ∀ n, ∀ x : Channel, x.resyncTimer = some 0 → x.resyncRetries = 0 →
      s.worked n (.resyncExpiry c) x = x.endExchange.triggered s.renewalParams.retryLimit n .resync :=
    fun n x hx hr => by rw [State.worked, if_pos hx, if_neg (by omega)]
  have hresult : ∀ n, s.worked n (.resyncExpiry c) r =
      if r.triggerable then
        if r.renewal = .idle then
          ({ r.endExchange with wanted := some .resync }).startRenewal s.renewalParams.retryLimit n
        else { r.endExchange with wanted := some .resync }
      else r.endExchange := fun n => (hended n r hdue hretries).trans (triggered_resync ..)
  by_cases hkeyed : r.triggerable = true
  · simp only [hkeyed, if_true] at hresult
    refine ⟨fun hno => absurd hkeyed (by rw [hno]; exact Bool.false_ne_true), fun _ hidle => ?_, fun _ hrunning => ?_⟩
    · simp only [if_pos hidle] at hresult
      obtain ⟨n, m, hn, hm, ⟨-, rfl⟩ | ⟨-, rfl⟩ | ⟨hyes, rfl⟩⟩ := h
      · exact ⟨n, hn, hresult n⟩
      · refine ⟨n, hn, ?_⟩
        rw [hresult, worked_age_of_running (startRenewal_running _ _),
          startRenewal_agedFlag (r := { r.endExchange with wanted := some .resync }) rfl]
      · have hreached : r.reached = true := by rw [Channel.reached, hyes, hkeyed]; rfl
        rw [worked_age, if_pos hreached]
        by_cases hstart : r.agedFlag.startDue = true
        · refine ⟨n, hn, ?_⟩
          rw [startedIfDue_of_due hstart]
          refine (hended m (r.agedFlag.startRenewal _ n) hdue hretries).trans ?_
          rw [startRenewal_endExchange, triggered_resync]
          exact (if_pos hkeyed).trans (if_neg (startRenewal_running (r := r.agedFlag.endExchange) _ n))
        · refine ⟨m, hm, ?_⟩
          rw [startedIfDue_of_not_due (Bool.eq_false_iff.mpr hstart)]
          refine (hended m r.agedFlag hdue hretries).trans ((triggered_resync ..).trans ?_)
          exact (if_pos hkeyed).trans (if_pos hidle)
    · simp only [if_neg hrunning] at hresult
      obtain ⟨n, m, -, -, ⟨-, rfl⟩ | ⟨-, rfl⟩ | ⟨-, rfl⟩⟩ := h
      · exact hresult n
      · rw [hresult]
        exact (worked_age_of_running (r := { r.endExchange with wanted := some .resync }) hrunning s m c).trans
          (agedFlag_of_wanted rfl)
      · rw [worked_age_of_running hrunning]
        refine (hended m r.agedFlag hdue hretries).trans ((triggered_resync ..).trans ?_)
        exact (if_pos hkeyed).trans (if_neg hrunning)
  · simp only [hkeyed] at hresult
    have hage : ∀ n, ∀ x : Channel, x.triggerable = r.triggerable → s.worked n (.ageTrigger c) x = x := by
      intro n x hx
      have hno : x.reached = false := by
        rw [Channel.reached, hx, Bool.eq_false_iff.mpr hkeyed, Bool.and_false]
      rw [worked_age, hno]
      rfl
    refine ⟨fun _ => ?_, fun hyes => absurd hyes hkeyed, fun hyes => absurd hyes hkeyed⟩
    obtain ⟨n, m, -, -, ⟨-, rfl⟩ | ⟨-, rfl⟩ | ⟨-, rfl⟩⟩ := h
    · exact hresult n
    · rw [hresult]
      exact hage m r.endExchange rfl
    · rw [hage n r rfl]
      exact hresult m

/-- The cutover timer's expiry: the AGE trigger's mark on the flag counts for the start that follows. -/
theorem WorksBeside.cutoverExpiry (h : s.WorksBeside c (.cutoverExpiry c) r r') (hdue : r.cutoverDue = true)
    (hage : r.ageReached = true → r.renewal ≠ .idle) :
    ∃ n : BitVec 64, n ≠ 0 ∧ r' = r.agedFlag.endCutover.startedIfDue s.renewalParams.retryLimit n := by
  have hcutover : ∀ n, ∀ x : Channel, x.cutoverDue = true →
      s.worked n (.cutoverExpiry c) x = x.endCutover.startedIfDue s.renewalParams.retryLimit n :=
    fun n x hx => by rw [State.worked, if_pos hx]
  obtain ⟨n, m, hn, hm, ⟨hno, rfl⟩ | ⟨hyes, rfl⟩ | ⟨hyes, rfl⟩⟩ := h
  · exact ⟨n, hn, by rw [hcutover n r hdue, agedFlag_of_not_ageReached hno]⟩
  · rw [hcutover n r hdue]
    by_cases hstart : r.endCutover.startDue = true
    · obtain ⟨-, -, k, hk, -⟩ := (startDue_iff_exists _).mp hstart
      refine ⟨n, hn, ?_⟩
      rw [startedIfDue_of_due hstart, worked_age_of_running (startRenewal_running _ _), startRenewal_agedFlag hk,
        agedFlag_of_wanted (r := r) hk, startedIfDue_of_due hstart]
    · refine ⟨m, hm, ?_⟩
      rw [startedIfDue_of_not_due (Bool.eq_false_iff.mpr hstart), worked_age]
      split
      · rfl
      · next hno =>
        rw [agedFlag_of_not_reached (r := r) (Bool.eq_false_iff.mpr hno),
          startedIfDue_of_not_due (Bool.eq_false_iff.mpr hstart)]
  · rw [worked_age_of_running (hage hyes)]
    exact ⟨m, hm, hcutover m r.agedFlag hdue⟩

end

/-! ## Silence beside the AGE trigger and scoring -/

theorem startedIfDue_quality (r : Channel) (retries : Nat) (nonce : BitVec 64) :
    (r.startedIfDue retries nonce).quality = r.quality := by
  unfold Channel.startedIfDue
  split <;> rfl

theorem worked_age_quality (s : State) (nonce : BitVec 64) (c : Fin 48) (r : Channel) :
    (s.worked nonce (.ageTrigger c) r).quality = r.quality := by
  rw [worked_age]
  split
  · exact startedIfDue_quality r.agedFlag ..
  · rfl

/-- A record whose silence count has reached the limit ends with closed values, whatever is scored or triggered before. -/
theorem WorksTo.silence {s : State} {c : Fin 48} {ws : List TickWork} {r r' : Channel} (h : s.WorksTo ws r r')
    (hws : ∀ w ∈ ws, w = .silence c ∨ w = .ageTrigger c ∨ w = .score c)
    (hr : (.silence c ∈ ws ∧ r.quality.silent s.qualityParams.silenceLimit = true) ∨ r = Channel.closedValues) :
    r' = Channel.closedValues := by
  induction ws generalizing r with
  | nil => exact hr.elim (fun hno => by cases hno.1) fun hclosed => h.trans hclosed
  | cons w ws ih =>
    obtain ⟨n, -, h⟩ := h
    refine ih h (fun v hv => hws v (List.mem_cons_of_mem w hv)) ?_
    obtain ⟨hmem, hsilent⟩ | rfl := hr
    · rcases hws w List.mem_cons_self with rfl | rfl | rfl
      · exact .inr (if_pos hsilent)
      · refine .inl ⟨by simpa using hmem, ?_⟩
        rwa [worked_age_quality]
      · refine .inl ⟨by simpa using hmem, ?_⟩
        rw [State.worked]
        split <;> exact hsilent
    · rcases hws w List.mem_cons_self with rfl | rfl | rfl
      · exact .inr rfl
      · exact .inr rfl
      · exact .inr rfl

end Sys2Proof.Machine
end

section
/-! PROOFS. The works of a tick on one record: which are due, and what one of them leaves, alone or beside the AGE trigger. -/

namespace Sys2Proof.Machine

/-! ## The record whose counts have advanced (R28) -/

/-- A record's timers at a tick, written out (R6, R75, R104, R106, R115, R147). -/
theorem tick_eq_counts (kind : TickKind) (r : Channel) :
    r.tick kind =
      { r with
        current := r.current.map (fun e => { e with age := min 4294967295 (e.age + 1) })
        holdOff := r.holdOff - 1
        offerTimer := if kind = .marker then r.offerTimer.map (· - 1) else r.offerTimer
        resyncTimer := if kind = .marker then r.resyncTimer.map (· - 1) else r.resyncTimer
        previous :=
          if kind = .marker then r.previous.map (fun e => { e with cutover := e.cutover - 1 }) else r.previous
        quality :=
          { r.quality with
            silence :=
              if kind = .marker ∧ r.quality.silenceRunning = true then min 65535 (r.quality.silence + 1)
              else r.quality.silence } } := by
  cases kind with
  | beat => simp [Channel.tick, Channel.everyTick]
  | marker => simp [Channel.tick, Channel.everyTick, Channel.markerTick, countDown, bump_eq]

/-- What scoring leaves of a record, the period end leaves. -/
theorem afterPeriod_of_scored {α : Type} (f : Channel → α) (hf : ∀ r p, f (Channel.scored p r) = f r) (s : State)
    (kind : TickKind) (c : Fin 48) : f (s.afterPeriod kind c) = f ((s.chan c).tick kind) := by
  unfold State.afterPeriod
  split
  · exact hf ..
  · rfl

theorem afterPeriod_eq (s : State) (kind : TickKind) (c : Fin 48) :
    s.afterPeriod kind c =
      if s.qualityParams.period ≤ min 65535 (s.periodTimer + 1) ∧ (s.chan c).state ≠ .closed then
        ((s.chan c).tick kind).scored s.qualityParams
      else (s.chan c).tick kind := by
  have hmem : TickWork.score c ∈ s.dueWorks kind ↔
      s.qualityParams.period ≤ min 65535 (s.periodTimer + 1) ∧ (s.chan c).state ≠ .closed := by
    have hworks : TickWork.score c ∈ s.dueWorks kind ↔ s.periodDue = true ∧ ((s.advance kind).chan c).state ≠ .closed :=
      mem_works ..
    rw [hworks, advance_chan, tick_state, State.periodDue, decide_eq_true_iff, bump_eq]
  unfold State.afterPeriod
  simp only [hmem]

/-! ## The works that are due, on the record that the period end leaves -/

section
variable (s : State) (kind : TickKind) (c : Fin 48)

theorem ageTrigger_mem_dueWorks :
    .ageTrigger c ∈ s.dueWorks kind ↔ (s.afterPeriod kind c).ageReached = true := by
  rw [afterPeriod_of_scored Channel.ageReached (fun _ _ => rfl), ← advance_chan]
  exact mem_works ..

theorem holdOffEnd_mem_dueWorks : .holdOffEnd c ∈ s.dueWorks kind ↔ (s.afterPeriod kind c).startDue = true := by
  rw [afterPeriod_of_scored Channel.startDue (fun _ _ => rfl), ← advance_chan]
  exact mem_works ..

theorem offerTimer_of_mem_dueWorks (h : .offerExpiry c ∈ s.dueWorks kind) :
    (s.afterPeriod kind c).offerTimer = some 0 := by
  rw [afterPeriod_of_scored Channel.offerTimer (fun _ _ => rfl), ← advance_chan]
  exact ((mem_works ..).mp h).2

theorem resyncTimer_of_mem_dueWorks (h : .resyncExpiry c ∈ s.dueWorks kind) :
    (s.afterPeriod kind c).resyncTimer = some 0 := by
  rw [afterPeriod_of_scored Channel.resyncTimer (fun _ _ => rfl), ← advance_chan]
  exact ((mem_works ..).mp h).2

theorem cutoverDue_of_mem_dueWorks (h : .cutoverExpiry c ∈ s.dueWorks kind) :
    (s.afterPeriod kind c).cutoverDue = true := by
  rw [afterPeriod_of_scored Channel.cutoverDue (fun _ _ => rfl), ← advance_chan]
  exact ((mem_works ..).mp h).2

theorem silent_of_mem_dueWorks (h : .silence c ∈ s.dueWorks kind) :
    ((s.chan c).tick kind).quality.silent s.qualityParams.silenceLimit = true := by
  rw [← advance_chan]
  exact ((mem_works ..).mp h).2

end

/-! ## One record after the tick -/

/-- A list of two entries at most, one of them in it. -/
theorem list_of_two {α : Type} {a b : α} (hab : a ≠ b) {l : List α} (hl : l.Nodup) (ha : a ∈ l)
    (h : ∀ x ∈ l, x = a ∨ x = b) : (b ∉ l ∧ l = [a]) ∨ (b ∈ l ∧ (l = [a, b] ∨ l = [b, a])) := by
  by_cases hb : b ∈ l
  · have hperm : l.Perm [a, b] := (List.perm_ext_iff_of_nodup hl (by simpa using hab)).mpr fun x => by
      simp only [List.mem_cons, List.not_mem_nil, or_false]
      exact ⟨h x, by rintro (rfl | rfl) <;> assumption⟩
    obtain ⟨x, y, rfl⟩ := List.length_eq_two.mp hperm.length_eq
    refine .inr ⟨hb, ?_⟩
    have hxy : x ≠ y := by simpa using hl
    rcases h x (by simp) with rfl | rfl <;> rcases h y (by simp) with rfl | rfl <;> simp_all
  · refine .inl ⟨hb, List.perm_singleton.mp ((List.perm_ext_iff_of_nodup hl (List.nodup_singleton a)).mpr fun x => ?_)⟩
    rw [List.mem_singleton]
    exact ⟨fun hx => (h x hx).resolve_right fun e => hb (e ▸ hx), fun e => e ▸ ha⟩

section
variable {s : State} {kind : TickKind} (order : List TickWork) {c : Fin 48}

/-- A record with no work but its scoring is as the period end leaves it. -/
theorem tick_chan_of_none (h : ∀ v ∈ s.dueWorks kind, workChannel v = some c → v = .score c) :
    (s.tick kind order).chan c = s.afterPeriod kind c := by
  obtain ⟨us, -, hus, hworks⟩ := tick_worksTo s kind order c fun w hw hc hne => absurd (h w hw hc) hne
  have hnil : us = [] := List.eq_nil_iff_forall_not_mem.mpr fun w hw => by
    obtain ⟨hdue, hc, hne⟩ := (hus w).mp hw
    exact hne (h w hdue hc)
  rw [hnil] at hworks
  exact hworks

/-- A record with the AGE trigger alone, its scoring apart. -/
theorem tick_chan_of_age (hdue : .ageTrigger c ∈ s.dueWorks kind)
    (h : ∀ v ∈ s.dueWorks kind, workChannel v = some c → v = .ageTrigger c ∨ v = .score c) :
    ∃ n : BitVec 64, n ≠ 0 ∧ (s.tick kind order).chan c = s.worked n (.ageTrigger c) (s.afterPeriod kind c) := by
  obtain ⟨us, hnodup, hus, hworks⟩ := tick_worksTo s kind order c fun w hw hc hne => by
    rw [(h w hw hc).resolve_right hne]
    rfl
  have hone : us = [.ageTrigger c] := by
    refine List.perm_singleton.mp ((List.perm_ext_iff_of_nodup hnodup (List.nodup_singleton _)).mpr fun w => ?_)
    rw [hus, List.mem_singleton]
    exact ⟨fun ⟨hw, hc, hne⟩ => (h w hw hc).resolve_right hne, by rintro rfl; exact ⟨hdue, rfl, by simp⟩⟩
  rw [hone] at hworks
  obtain ⟨n, hn, hworks⟩ := hworks
  exact ⟨n, hn, hworks⟩

/-- A record with one work, alone or beside the AGE trigger, its scoring apart. -/
theorem tick_worksBeside {w : TickWork} (hdue : w ∈ s.dueWorks kind) (hchannel : workChannel w = some c)
    (hscorable : scorable w = true) (hne : w ≠ .ageTrigger c)
    (h : ∀ v ∈ s.dueWorks kind, workChannel v = some c → v = w ∨ v = .ageTrigger c ∨ v = .score c) :
    s.WorksBeside c w (s.afterPeriod kind c) ((s.tick kind order).chan c) := by
  obtain ⟨us, hnodup, hus, hworks⟩ := tick_worksTo s kind order c fun v hv hc hscore => by
    rcases h v hv hc with rfl | rfl | rfl
    · exact hscorable
    · rfl
    · exact absurd rfl hscore
  have hw : w ∈ us := (hus w).mpr ⟨hdue, hchannel, fun e => by rw [e] at hscorable; cases hscorable⟩
  have hpair : ∀ v ∈ us, v = w ∨ v = .ageTrigger c := fun v hv => by
    obtain ⟨hdue, hc, hscore⟩ := (hus v).mp hv
    exact (h v hdue hc).imp_right fun hor => hor.resolve_right hscore
  have hage : .ageTrigger c ∈ us ↔ (s.afterPeriod kind c).ageReached = true := by
    rw [hus, ageTrigger_mem_dueWorks]
    exact ⟨fun ⟨hreached, _, _⟩ => hreached, fun hreached => ⟨hreached, rfl, by simp⟩⟩
  rcases list_of_two hne hnodup hw hpair with ⟨hno, rfl⟩ | ⟨hyes, rfl | rfl⟩
  · obtain ⟨n, hn, hworks⟩ := hworks
    exact ⟨n, n, hn, hn, .inl ⟨Bool.eq_false_iff.mpr (mt hage.mpr hno), hworks⟩⟩
  · obtain ⟨n, hn, m, hm, hworks⟩ := hworks
    exact ⟨n, m, hn, hm, .inr (.inl ⟨hage.mp hyes, hworks⟩)⟩
  · obtain ⟨n, hn, m, hm, hworks⟩ := hworks
    exact ⟨n, m, hn, hm, .inr (.inr ⟨hage.mp hyes, hworks⟩)⟩

/-- A record that silence closes, whatever is triggered or scored. -/
theorem tick_chan_of_silence (hdue : .silence c ∈ s.dueWorks kind)
    (h : ∀ v ∈ s.dueWorks kind, workChannel v = some c → v = .silence c ∨ v = .ageTrigger c ∨ v = .score c) :
    (s.tick kind order).chan c = Channel.closedValues := by
  have halike : s.Alike (s.advance kind) := ⟨rfl, rfl, rfl, rfl⟩
  refine WorksTo.silence (carryOut_worksTo halike c _) (fun w hw => ?_)
    (.inl ⟨mem_worksOf.mpr ⟨mem_inOrder.mpr hdue, rfl⟩, by rw [advance_chan]; exact silent_of_mem_dueWorks s kind c hdue⟩)
  obtain ⟨hw, hc⟩ := mem_worksOf.mp hw
  exact h w (mem_inOrder.mp hw) hc

end

end Sys2Proof.Machine
end

section
/-! PROOFS. The due works over the records that have counted, and the records that works leave, written out. -/

namespace Sys2Proof.Machine

theorem silent_tick_iff (s : State) (kind : TickKind) (c : Fin 48) :
    kind = .marker ∧ ((s.chan c).tick kind).quality.silent s.qualityParams.silenceLimit = true ↔
      (decide (kind = .marker) && (s.chan c).quality.silenceRunning &&
        decide (s.qualityParams.silenceLimit ≤ ((s.chan c).tick kind).quality.silence)) = true := by
  cases kind <;> simp [Quality.silent, Channel.tick, Channel.markerTick, Channel.everyTick]

theorem ageReached_iff (r : Channel) :
    r.ageReached = true ↔ ∃ e, r.current = some e ∧ r.ageLimit ≠ 0 ∧ r.ageLimit ≤ e.age := by
  unfold Channel.ageReached
  cases r.current <;> simp

/-- The works that a tick brings, over the records whose counts have advanced. -/
theorem mem_dueWorks (s : State) (kind : TickKind) (w : TickWork) :
    w ∈ s.dueWorks kind ↔
      match w with
      | .keyingEntry c => (s.chan c).state = .opening
      | .closingEnd c => (s.chan c).state = .closing
      | .ageTrigger c =>
        ∃ e, ((s.chan c).tick kind).current = some e ∧ (s.chan c).ageLimit ≠ 0 ∧ (s.chan c).ageLimit ≤ e.age
      | .holdOffEnd c =>
        ((s.chan c).state = .keying ∨ (s.chan c).state = .active) ∧ (s.chan c).renewal = .idle ∧
          ∃ k, (s.chan c).wanted = some k ∧ (((s.chan c).tick kind).holdOff = 0 ∨ k.forcing = true)
      | .offerExpiry c => kind = .marker ∧ ((s.chan c).tick kind).offerTimer = some 0
      | .resyncExpiry c => kind = .marker ∧ ((s.chan c).tick kind).resyncTimer = some 0
      | .cutoverExpiry c => kind = .marker ∧ ∃ p, ((s.chan c).tick kind).previous = some p ∧ p.cutover = 0
      | .silence c =>
        (decide (kind = .marker) && (s.chan c).quality.silenceRunning &&
          decide (s.qualityParams.silenceLimit ≤ ((s.chan c).tick kind).quality.silence)) = true
      | .score c => s.qualityParams.period ≤ min 65535 (s.periodTimer + 1) ∧ (s.chan c).state ≠ .closed
      | .presence p => (s.link p).present = true ∧ s.presencePeriod ≤ min 65535 ((s.link p).timer + 1) := by
  have hkept : ∀ c, ((s.chan c).tick kind).renewal = (s.chan c).renewal ∧
      ((s.chan c).tick kind).wanted = (s.chan c).wanted ∧
      ((s.chan c).tick kind).ageLimit = (s.chan c).ageLimit := fun c => by cases kind <;> exact ⟨rfl, rfl, rfl⟩
  refine (mem_works ..).trans ?_
  cases w with
  | keyingEntry c => simp
  | closingEnd c => simp
  | ageTrigger c => simp only [advance_chan, ageReached_iff, hkept]
  | holdOffEnd c => simp only [advance_chan, startDue_iff_exists, tick_state, hkept]
  | offerExpiry c => simp
  | resyncExpiry c => simp
  | cutoverExpiry c => simp only [advance_chan, cutoverDue_iff]
  | silence c =>
    refine Iff.trans ?_ (silent_tick_iff s kind c)
    rw [← advance_chan]
    rfl
  | score c => simp [State.periodDue, bump_eq]
  | presence p =>
    have hlimit : (s.advance kind).presencePeriod = s.presencePeriod := rfl
    simp only [State.presenceDue, advance_link, hlimit, PortLink.tick]
    by_cases h : (s.link p).present = true <;> simp [h, bump_eq]

theorem afterPeriod_state (s : State) (kind : TickKind) (c : Fin 48) :
    (s.afterPeriod kind c).state = (s.chan c).state :=
  (afterPeriod_of_scored Channel.state (fun _ _ => rfl) s kind c).trans (tick_state ..)

/-- The AGE trigger alone, on a record with no start due. -/
theorem worked_age_alone {r : Channel} (hage : r.ageReached = true) (hnone : r.startDue = false) (s : State)
    (nonce : BitVec 64) (c : Fin 48) :
    (¬ (r.state = .keying ∨ r.state = .active) → s.worked nonce (.ageTrigger c) r = r) ∧
      (r.state = .keying ∨ r.state = .active → r.renewal = .idle → r.holdOff = 0 →
        s.worked nonce (.ageTrigger c) r =
          ({ r with wanted := some .age }).startRenewal s.renewalParams.retryLimit nonce) ∧
      (r.state = .keying ∨ r.state = .active → r.renewal ≠ .idle ∨ r.holdOff ≠ 0 →
        s.worked nonce (.ageTrigger c) r = { r with wanted := some (r.wanted.getD .age) }) := by
  have hreached : r.reached = true ↔ r.state = .keying ∨ r.state = .active := by
    rw [Channel.reached, hage, Bool.true_and, triggerable_iff]
  have hflag : r.state = .keying ∨ r.state = .active → r.agedFlag = { r with wanted := some (r.wanted.getD .age) } :=
    fun hkeyed => agedFlag_of_reached (hreached.mpr hkeyed)
  refine ⟨fun hno => ?_, fun hkeyed hidle hhold => ?_, fun hkeyed hwait => ?_⟩
  · rw [worked_age, if_neg (mt hreached.mp hno)]
  · have hstart := (agedFlag_startDue_iff hnone).mpr ⟨hreached.mpr hkeyed, hidle, hhold⟩
    rw [worked_age, if_pos (hreached.mpr hkeyed), startedIfDue_of_due hstart, hflag hkeyed,
      wanted_of_agedFlag_startDue hnone hstart]
    rfl
  · rw [worked_age_of_not_due, hflag hkeyed]
    refine Bool.eq_false_iff.mpr fun hstart => ?_
    obtain ⟨-, hidle, hhold⟩ := (agedFlag_startDue_iff hnone).mp hstart
    exact hwait.elim (· hidle) (· hhold)

/-- The end of a renewal in failure with its retries spent, written out (R108). -/
theorem failRenewal_standing {r : Channel} (h : r.renewRetries = 0) (tOffer : Nat) :
    r.failRenewal tOffer =
      { r with
        pendingEntry := none
        pendingCells := r.pendingCells.filter (fun x => decide (x.family ≠ .renewal))
        offerTimer := none
        renewal := .idle
        holdOff := 8 * tOffer
        wanted :=
          if r.state = .keying then some .initial
          else if r.ageReached then some .age
          else
            match r.current with
            | some e => if r.preset < e.nextTx then some .preset else none
            | none => none } := by
  have hpreset : (if r.presetReached then some Cause.preset else none) =
      match r.current with
      | some e => if r.preset < e.nextTx then some .preset else none
      | none => none := by
    unfold Channel.presetReached
    cases r.current <;> simp
  rw [Channel.failRenewal, Channel.standingCause, ← h, hpreset]
  rfl

/-- The start of a renewal, written out (R98, R105). -/
theorem startRenewal_written (r : Channel) (retries : Nat) (nonce : BitVec 64) :
    r.startRenewal retries nonce =
      { r with
        renewal := .offered
        pendingEntry := some {
          epoch :=
            match r.current with
            | some e => if e.key.epoch = 255 then 1 else e.key.epoch + 1
            | none => 1
          nonce := nonce
          keys := none }
        pendingCells := enqueue (.offer
          (match r.current with
            | some e => if e.key.epoch = 255 then 1 else e.key.epoch + 1
            | none => 1) nonce) r.pendingCells
        renewRetries := retries
        offerTimer := none } := rfl

theorem endExchange_of_spent {r : Channel} (h : r.resyncRetries = 0) :
    r.endExchange =
      { r with
        pendingCells := r.pendingCells.filter (fun x => decide (x.family ≠ .challenge))
        challenge := none
        resyncTimer := none } := by
  rw [endExchange_eq, ← h]

/-! ## Expiries with what they leave written out -/

section
variable {s : State} {c : Fin 48} {r r' : Channel}

/-- The resync timer's expiry with retries left, on a record with no start due before. -/
theorem WorksBeside.resyncExpiry_sent (h : s.WorksBeside c (.resyncExpiry c) r r') (hdue : r.resyncTimer = some 0)
    (hretries : 0 < r.resyncRetries) (hnone : r.startDue = false) {x : BitVec 64} (hx : r.challenge = some x)
    {sent : Channel} (hsent : { r with
      resyncRetries := r.resyncRetries - 1, resyncTimer := none, wanted := r.wantedAfterAge } = sent) :
    (r.reached = false ∨ r.renewal ≠ .idle ∨ r.holdOff ≠ 0 →
      r' = { sent with pendingCells := enqueue (.resync x) r.pendingCells }) ∧
      (r.reached = true → r.renewal = .idle → r.holdOff = 0 → ∃ n : BitVec 64, n ≠ 0 ∧
        (r' = ({ sent with pendingCells := enqueue (.resync x) r.pendingCells }).startRenewal s.renewalParams.retryLimit n ∨
          r' = { sent.startRenewal s.renewalParams.retryLimit n with
            pendingCells := enqueue (.resync x) (sent.startRenewal s.renewalParams.retryLimit n).pendingCells })) := by
  subst hsent
  obtain ⟨hwait, hstarts⟩ := WorksBeside.resyncExpiry_again h hdue hretries
  have hstart := agedFlag_startDue_iff hnone
  have hagain := requeueResync_of_challenge (r := r.agedFlag) hx
  refine ⟨fun hor => ?_, fun hyes hidle hhold => ?_⟩
  · refine (hwait (Bool.eq_false_iff.mpr fun hs => ?_)).trans hagain
    obtain ⟨hyes, hidle, hhold⟩ := hstart.mp hs
    rcases hor with hno | hno | hno
    · rw [hyes] at hno
      cases hno
    · exact hno hidle
    · exact hno hhold
  · obtain ⟨n, hn, hfirst | hlast⟩ := hstarts (hstart.mpr ⟨hyes, hidle, hhold⟩) hyes
    · rw [hagain] at hfirst
      exact ⟨n, hn, .inl hfirst⟩
    · exact ⟨n, hn, .inr (hlast.trans (requeueResync_of_challenge (r := r.agedFlag.startRenewal _ n) hx))⟩

/-- The cutover timer's expiry: a renewal starts where the flag, after the AGE trigger, gives it a cause. -/
theorem WorksBeside.cutoverExpiry_ended (h : s.WorksBeside c (.cutoverExpiry c) r r') (hdue : r.cutoverDue = true)
    (hage : r.ageReached = true → r.renewal ≠ .idle) {ended : Channel}
    (hended : { r with previous := none, renewal := .idle, wanted := r.wantedAfterAge } = ended) :
    (∀ k, r.wantedAfterAge = some k → r.state = .keying ∨ r.state = .active → r.holdOff = 0 ∨ k.forcing = true →
      ∃ n : BitVec 64, n ≠ 0 ∧ r' = ended.startRenewal s.renewalParams.retryLimit n) ∧
      (r.wantedAfterAge = none ∨ ¬ (r.state = .keying ∨ r.state = .active) ∨
          (r.holdOff ≠ 0 ∧ ∀ k, r.wantedAfterAge = some k → k.forcing = false) →
        r' = ended) := by
  subst hended
  obtain ⟨n, hn, hr⟩ := WorksBeside.cutoverExpiry h hdue hage
  refine ⟨fun k hk hkeyed hor => ⟨n, hn, ?_⟩, fun hno => ?_⟩
  · have hstart : r.agedFlag.endCutover.startDue = true := (startDue_iff_exists _).mpr ⟨hkeyed, rfl, k, hk, hor⟩
    rw [startedIfDue_of_due hstart] at hr
    exact hr
  · refine hr.trans (startedIfDue_of_not_due (Bool.eq_false_iff.mpr fun hstart => ?_) ..)
    obtain ⟨hkeyed, -, k, hk, hor⟩ := (startDue_iff_exists _).mp hstart
    have hk : r.wantedAfterAge = some k := hk
    rcases hno with hno | hno | ⟨hhold, hforcing⟩
    · rw [hno] at hk
      cases hk
    · exact hno hkeyed
    · rw [hforcing k hk] at hor
      exact hor.elim hhold Bool.false_ne_true

end

end Sys2Proof.Machine
end

section
/-! PROOFS. The works of a tick on the whole state: the parts they touch, and each of them written out. -/

namespace Sys2Proof.Machine

/-- A state with the parts of another that the works of a tick touch. -/
def State.withTickParts (s u : State) : State :=
  { s with
    channels := u.channels
    portA := u.portA
    portB := u.portB
    portK := u.portK
    inboundA := u.inboundA
    inboundB := u.inboundB
    log := u.log
    nonceIndex := u.nonceIndex }

theorem withTickParts_trans {s t u : State} (h : t = s.withTickParts t) (h' : u = t.withTickParts u) :
    u = s.withTickParts u := h'.trans (congrArg (·.withTickParts u) h)

theorem startIfDue_parts (s : State) (c : Fin 48) : s.startIfDue c = s.withTickParts (s.startIfDue c) := by
  unfold State.startIfDue
  split <;> rfl

theorem trigger_parts (s : State) (c : Fin 48) (k : Cause) : s.trigger c k = s.withTickParts (s.trigger c k) := by
  unfold State.trigger
  split
  · exact withTickParts_trans rfl (startIfDue_parts ..)
  · rfl

/-- An immediate closure: the delivered cells leave, and the record receives the closed values (R12, R15). -/
theorem closeNow_eq (s : State) (c : Fin 48) : s.closeNow c = (s.removeInbound c).setChan c Channel.closedValues := by
  rw [State.closeNow, State.teardown, State.modChan, setChan_setChan]

theorem removeInbound_parts (s : State) (c : Fin 48) : s.removeInbound c = s.withTickParts (s.removeInbound c) := by
  unfold State.removeInbound
  rcases (s.chan c).serving with _ | q
  · rfl
  · cases q <;> rfl

theorem closeNow_parts (s : State) (c : Fin 48) : s.closeNow c = s.withTickParts (s.closeNow c) := by
  rw [closeNow_eq]
  exact withTickParts_trans (removeInbound_parts s c) rfl

theorem work_parts (s : State) (w : TickWork) : s.work w = s.withTickParts (s.work w) := by
  cases w with
  | keyingEntry c =>
    simp only [State.work, State.keyingEntry]
    split
    · exact withTickParts_trans rfl (trigger_parts ..)
    · rfl
  | closingEnd c =>
    simp only [State.work, State.closingEnd]
    split <;> rfl
  | ageTrigger c =>
    simp only [State.work, State.judgeAge]
    split
    · exact trigger_parts ..
    · rfl
  | holdOffEnd c => exact startIfDue_parts s c
  | offerExpiry c =>
    simp only [State.work, State.offerExpired]
    split_ifs <;> rfl
  | resyncExpiry c =>
    simp only [State.work, State.resyncExpired]
    split_ifs
    · rfl
    · exact withTickParts_trans rfl (trigger_parts ..)
    · rfl
  | cutoverExpiry c =>
    simp only [State.work, cutoverExpired_eq]
    split
    · exact withTickParts_trans rfl (startIfDue_parts ..)
    · rfl
  | silence c =>
    simp only [State.work, State.judgeSilence]
    split
    · exact withTickParts_trans rfl (closeNow_parts ..)
    · rfl
  | score c =>
    by_cases h : (s.chan c).state = .closed
    · simp only [State.work, State.scoreChannel, if_pos h]
      rfl
    · simp only [State.work, scoreChannel_of_open h]
      split <;> rfl
  | presence p =>
    simp only [State.work, State.presenceExpired]
    split
    · cases p <;> rfl
    · rfl

theorem carryOut_parts (s : State) (ws : List TickWork) : s.carryOut ws = s.withTickParts (s.carryOut ws) := by
  induction ws generalizing s with
  | nil => rfl
  | cons w ws ih => exact withTickParts_trans (work_parts s w) (ih _)

/-! ## The works, written out -/

section
variable {s u : State} (h : s.Alike u) (c : Fin 48)
include h

theorem startIfDue_written :
    u.startIfDue c =
      match (u.chan c).wanted with
      | some k =>
        if ((u.chan c).state = .keying ∨ (u.chan c).state = .active) ∧ (u.chan c).renewal = .idle ∧
            ((u.chan c).holdOff = 0 ∨ k.forcing = true) then
          (u.setChan c { u.chan c with
            renewal := .offered
            pendingEntry := some { epoch := (u.chan c).newEpoch, nonce := u.nextNonce, keys := none }
            pendingCells := enqueue (.offer (u.chan c).newEpoch u.nextNonce) (u.chan c).pendingCells
            renewRetries := s.renewalParams.retryLimit
            offerTimer := none }).afterDraw
        else u
      | none => u := by
  rw [← h.renewalParams]
  cases hk : (u.chan c).wanted with
  | none =>
    refine startIfDue_of_not_due fun hdue => ?_
    obtain ⟨-, -, k, hk', -⟩ := (startDue_iff_exists _).mp hdue
    rw [hk] at hk'
    cases hk'
  | some k =>
    have hdue : (u.chan c).startDue = true ↔ ((u.chan c).state = .keying ∨ (u.chan c).state = .active) ∧
        (u.chan c).renewal = .idle ∧ ((u.chan c).holdOff = 0 ∨ k.forcing = true) := by
      rw [startDue_iff_exists, hk]
      simp
    simp only [State.startIfDue, hdue]
    rfl

theorem offerExpired_written :
    u.offerExpired c =
      if (u.chan c).offerTimer ≠ some 0 then u
      else if (u.chan c).renewRetries = 0 then
        (u.raiseFor .renewFail c (u.chan c).offeredEpoch).setChan c { u.chan c with
          pendingEntry := none
          pendingCells := (u.chan c).pendingCells.filter (fun y => decide (y.family ≠ .renewal))
          offerTimer := none
          renewal := .idle
          holdOff := 8 * s.renewalParams.tOffer
          wanted :=
            if (u.chan c).state = .keying then some .initial
            else if (u.chan c).ageReached then some .age
            else
              match (u.chan c).current with
              | some e => if (u.chan c).preset < e.nextTx then some .preset else none
              | none => none }
      else
        u.setChan c { u.chan c with
          pendingCells :=
            match (u.chan c).pendingEntry with
            | some p => enqueue (.offer p.epoch p.nonce) (u.chan c).pendingCells
            | none => (u.chan c).pendingCells
          renewRetries := (u.chan c).renewRetries - 1
          offerTimer := none } := by
  unfold State.offerExpired
  by_cases htimer : (u.chan c).offerTimer = some 0
  · rw [if_pos htimer, if_neg (not_not.mpr htimer)]
    by_cases hretries : (u.chan c).renewRetries = 0
    · rw [if_neg (by omega), if_pos hretries, State.failRenewal, State.modChan, raiseFor_chan, h.renewalParams]
      exact congrArg (State.setChan _ c) (failRenewal_standing hretries _)
    · rw [if_pos (by omega), if_neg hretries, State.modChan, Channel.requeueOffer]
      cases (u.chan c).pendingEntry <;> rfl
  · rw [if_neg htimer, if_pos htimer]

theorem resyncExpired_written :
    u.resyncExpired c =
      if (u.chan c).resyncTimer ≠ some 0 then u
      else if (u.chan c).resyncRetries = 0 then
        ((u.raiseFor .resyncFail c s.renewalParams.retryLimit).setChan c { u.chan c with
          pendingCells := (u.chan c).pendingCells.filter (fun y => decide (y.family ≠ .challenge))
          challenge := none
          resyncTimer := none }).trigger c .resync
      else
        u.setChan c { u.chan c with
          pendingCells :=
            match (u.chan c).challenge with
            | some y => enqueue (.resync y) (u.chan c).pendingCells
            | none => (u.chan c).pendingCells
          resyncRetries := (u.chan c).resyncRetries - 1
          resyncTimer := none } := by
  unfold State.resyncExpired
  by_cases htimer : (u.chan c).resyncTimer = some 0
  · rw [if_pos htimer, if_neg (not_not.mpr htimer)]
    by_cases hretries : (u.chan c).resyncRetries = 0
    · rw [if_neg (by omega), if_pos hretries, State.modChan, endExchange_of_spent hretries, h.renewalParams]
      refine congrArg (State.trigger · c .resync) ?_
      unfold State.raiseFor
      rw [raise_setChan, chan_setChan_same]
    · rw [if_pos (by omega), if_neg hretries, State.modChan, Channel.requeueResync]
      cases (u.chan c).challenge <;> rfl
  · rw [if_neg htimer, if_pos htimer]

theorem silence_written :
    u.judgeSilence c =
      if (u.chan c).quality.silenceRunning = true ∧ s.qualityParams.silenceLimit ≤ (u.chan c).quality.silence then
        ((u.raiseFor .silent c (u.chan c).quality.silence).removeInbound c).setChan c Channel.closedValues
      else u := by
  have hsilent : (u.chan c).quality.silent u.qualityParams.silenceLimit = true ↔
      (u.chan c).quality.silenceRunning = true ∧ s.qualityParams.silenceLimit ≤ (u.chan c).quality.silence := by
    simp [Quality.silent, h.qualityParams]
  simp only [State.judgeSilence, hsilent, closeNow_eq]

theorem scoreChannel_written :
    u.scoreChannel c =
      if (u.chan c).state = .closed then u
      else if lowAtPeriodEnd s.qualityParams (u.chan c).quality = (u.chan c).quality.low then
        u.setChan c ((u.chan c).scored s.qualityParams)
      else
        (u.setChan c ((u.chan c).scored s.qualityParams)).raiseFor
          (if lowAtPeriodEnd s.qualityParams (u.chan c).quality then .qualityLow else .qualityOk) c
          (u.chan c).quality.closePeriod.smoothed := by
  by_cases hclosed : (u.chan c).state = .closed
  · rw [if_pos hclosed, State.scoreChannel, if_pos hclosed]
  · rw [if_neg hclosed, scoreChannel_of_open hclosed, h.qualityParams, State.raiseFor, chan_setChan_same]
    rfl

theorem presenceExpired_written (p : Port) :
    u.presenceExpired p =
      if (u.link p).present = true ∧ s.presencePeriod ≤ (u.link p).timer then
        (u.setLink p { u.link p with present := false, timer := 0 }).raise .portAbsent none (some p) s.presencePeriod
      else u := by
  have hdue : u.presenceDue p = true ↔ (u.link p).present = true ∧ s.presencePeriod ≤ (u.link p).timer := by
    simp [State.presenceDue, h.presencePeriod]
  simp only [State.presenceExpired, hdue, h.presencePeriod]

end

theorem derivedBase_written (u : State) (c : Fin 48) :
    u.derivedBase c =
      ((u.chan c).master.bind fun m => match u.masters[m] with | .loaded key _ => some key | .empty => none).bind
        fun key => (u.chan c).shop.map fun shop => baseEntry key c shop := by
  unfold State.derivedBase State.masterKey
  rcases (u.chan c).master with _ | m
  · rfl
  · simp only [Option.bind_some]
    generalize u.masters[m] = slot
    cases slot with
    | empty => rfl
    | loaded key check => cases (u.chan c).shop <;> rfl

/-! ## The works of a list, and the port links -/

/-- A description of the works that agrees with each of them agrees with a list of them. -/
theorem foldl_eq_carryOut {s : State} {f : State → TickWork → State} (h : ∀ u w, s.Alike u → f u w = u.work w)
    (ws : List TickWork) {u : State} (hu : s.Alike u) : ws.foldl f u = u.carryOut ws := by
  induction ws generalizing u with
  | nil => rfl
  | cons w ws ih => rw [List.foldl_cons, h u w hu, carryOut_cons, ih (hu.work w)]

/-- A work leaves the link of a port that does not expire (R173). -/
theorem work_link_of_ne (s : State) {w : TickWork} {p : Port} (h : w ≠ .presence p) : (s.work w).link p = s.link p := by
  cases hw : workChannel w with
  | some c =>
    have honly := work_only s hw
    cases p
    · exact honly.portA
    · exact honly.portB
    · exact honly.portK
  | none =>
    cases w with
    | presence q =>
      have hne : q ≠ p := fun e => h (e ▸ rfl)
      simp only [State.work, State.presenceExpired]
      split
      · rw [raise_link, link_setLink_ne _ _ hne]
      · rfl
    | _ => cases hw

/-- The expiry of a port that is due leaves it ABSENT, its timer 0 (R173). -/
theorem work_link_of_due {s u : State} (h : s.Alike u) {p : Port}
    (hdue : (u.link p).present = true ∧ s.presencePeriod ≤ (u.link p).timer) :
    (u.work (.presence p)).link p = { u.link p with present := false, timer := 0 } := by
  rw [State.work, presenceExpired_written h, if_pos hdue, raise_link, link_setLink_same]

theorem work_link_of_absent {u : State} {p : Port} (h : (u.link p).present = false) :
    (u.work (.presence p)).link p = u.link p := by
  have hno : ¬ ((u.link p).present = true ∧ u.presencePeriod ≤ (u.link p).timer) := by simp [h]
  rw [State.work, presenceExpired_written (.refl u), if_neg hno]

/-- The link of a port after a tick: its timer advances, and at the presence period the port is ABSENT (R173). -/
theorem tick_link (s : State) (kind : TickKind) (order : List TickWork) (p : Port) :
    (s.tick kind order).link p =
      if (s.link p).present = false then s.link p
      else if s.presencePeriod ≤ min 65535 ((s.link p).timer + 1) then { s.link p with present := false, timer := 0 }
      else { s.link p with timer := min 65535 ((s.link p).timer + 1) } := by
  have hother : ∀ w, w ≠ .presence p → ∀ (l : PortLink) (u : State), u.link p = l → (u.work w).link p = l :=
    fun w hw l u hu => (work_link_of_ne u hw).trans hu
  by_cases hmem : TickWork.presence p ∈ s.dueWorks kind
  · obtain ⟨hpresent, hperiod⟩ := (mem_dueWorks s kind (.presence p)).mp hmem
    have htick : (s.link p).tick = { s.link p with timer := min 65535 ((s.link p).timer + 1) } := by
      rw [PortLink.tick, if_pos hpresent, bump_eq]
    rw [if_neg (by simp [hpresent]), if_pos hperiod]
    have hreach : ∀ u, s.Alike u ∧ u.link p = (s.link p).tick →
        (u.work (.presence p)).link p = { s.link p with present := false, timer := 0 } := by
      rintro u ⟨halike, hlink⟩
      rw [work_link_of_due halike (by rw [hlink, htick]; exact ⟨hpresent, hperiod⟩), hlink, htick]
    refine carryOut_reaches (P := fun u => s.Alike u ∧ u.link p = (s.link p).tick)
      (Q := fun u => u.link p = { s.link p with present := false, timer := 0 }) (mem_inOrder.mpr hmem) hreach
      (fun w _ u hu => ?_) (fun w _ u hu => ?_) _ ⟨⟨rfl, rfl, rfl, rfl⟩, advance_link ..⟩
    · by_cases hw : w = .presence p
      · exact .inr (hw ▸ hreach u hu)
      · exact .inl ⟨hu.1.work w, hother w hw _ u hu.2⟩
    · by_cases hw : w = .presence p
      · rw [hw, work_link_of_absent (by rw [hu])]
        exact hu
      · exact hother w hw _ u hu
  · have hkept : (s.tick kind order).link p = (s.link p).tick :=
      carryOut_keeps_of_mem (fun w hw u hu => hother w (fun e => hmem (e ▸ mem_inOrder.mp hw)) _ u hu) _ (advance_link ..)
    have hnot := mt (mem_dueWorks s kind (.presence p)).mpr hmem
    rw [hkept, PortLink.tick]
    by_cases hpresent : (s.link p).present = true
    · rw [if_pos hpresent, if_neg (by simp [hpresent]), if_neg fun hperiod => hnot ⟨hpresent, hperiod⟩, bump_eq]
    · rw [if_neg hpresent, if_pos (Bool.eq_false_iff.mpr hpresent)]

end Sys2Proof.Machine
end

section
/-! PROOFS. The delivered cells and the faults of a tick's works, taken in any order. -/

namespace Sys2Proof.Machine

/-! ## What the log reads of the port links (R157, R158, R163) -/

/-- Two readings of the port links that the log does not tell apart: the same ports PRESENT, with the same cursors. -/
def SameReaders (l l' : Port → PortLink) : Prop := ∀ p, (l p).present = (l' p).present ∧ (l p).cursor = (l' p).cursor

theorem presentCursors_congr {l l' : Port → PortLink} (h : SameReaders l l') : presentCursors l = presentCursors l' := by
  unfold presentCursors
  have hpresent : (fun p => (l p).present) = fun p => (l' p).present := funext fun p => (h p).1
  have hcursor : (fun p => (l p).cursor) = fun p => (l' p).cursor := funext fun p => (h p).2
  rw [hpresent, hcursor]

theorem asJudged_congr {l l' : Port → PortLink} (h : SameReaders l l') (f : FaultReport) :
    SameReaders (asJudged l f) (asJudged l' f) := by
  intro p
  unfold asJudged
  split
  · cases f.kind <;> simp [h p]
  · exact h p

theorem takeFault_congr {l l' : Port → PortLink} (h : SameReaders l l') (log : FaultLog) (i : Nat) :
    log.takeFault l i = log.takeFault l' i := by
  have htaken : ∀ f, log.asTaken l f = log.asTaken l' f := fun f => by
    unfold FaultLog.asTaken
    split
    · rw [(h _).2]
    · rfl
  unfold FaultLog.takeFault
  simp only [htaken, presentCursors_congr (asJudged_congr h _)]

theorem turn_congr {l l' : Port → PortLink} (h : SameReaders l l') (log : FaultLog) : log.turn l = log.turn l' := by
  unfold FaultLog.turn
  simp only [takeFault_congr h]

/-- Two states in which the same faults raised leave the same log. -/
structure State.SameFaults (u v : State) : Prop where
  log : u.log = v.log
  stamp : u.timebase.tick = v.timebase.tick
  readers : SameReaders u.link v.link

theorem State.SameFaults.raise {u v : State} (h : u.SameFaults v) (k : FaultKind) (c : Option (Fin 48)) (p : Option Port)
    (n : Nat) : (u.raise k c p n).SameFaults (v.raise k c p n) where
  log := by
    simp only [State.raise, h.log, h.stamp]
    exact turn_congr h.readers _
  stamp := h.stamp
  readers o := by simpa using h.readers o

/-- Parts of the state that the log does not read. -/
theorem State.SameFaults.of_eq {u u' v : State} (h : u.SameFaults v) (hlog : u'.log = u.log)
    (htick : u'.timebase = u.timebase) (hlink : u'.link = u.link) : u'.SameFaults v :=
  ⟨hlog.trans h.log, (congrArg (·.tick) htick).trans h.stamp, hlink ▸ h.readers⟩

theorem State.SameFaults.setAbsent {u v : State} (h : u.SameFaults v) (p : Port) :
    (u.setLink p { u.link p with present := false, timer := 0 }).SameFaults
      (v.setLink p { v.link p with present := false, timer := 0 }) where
  log := by simpa using h.log
  stamp := by simpa using h.stamp
  readers o := by
    rw [link_setLink, link_setLink]
    split
    · exact ⟨rfl, (h.readers p).2⟩
    · exact h.readers o

theorem State.SameFaults.setChan {u v : State} (h : u.SameFaults v) (c : Fin 48) (r : Channel) :
    (u.setChan c r).SameFaults v := h.of_eq rfl rfl rfl

/-! ## What a work reads, while the works before it are carried out -/

/-- What a scoring reads of a record for its fault. -/
def Channel.scoring (r : Channel) : Option Service × Counts × Bool × Nat :=
  (r.serving, r.quality.counts, r.quality.low, r.quality.smoothed)

/-- The record r has kept of the record r₀, whose counts have advanced, what a work reads for the cells it removes and the
fault it raises. -/
def Kept (r₀ r : Channel) : TickWork → Prop
  | .keyingEntry _ => True
  | .closingEnd _ => True
  | .ageTrigger _ => True
  | .holdOffEnd _ => True
  | .offerExpiry _ => r = { r₀ with wanted := r.wanted, quality := r.quality }
  | .resyncExpiry _ => r.serving = r₀.serving ∧ r.resyncTimer = r₀.resyncTimer ∧ r.resyncRetries = r₀.resyncRetries
  | .cutoverExpiry _ => True
  | .silence _ => r.serving = r₀.serving ∧ r.quality = r₀.quality
  | .score _ => r.scoring = r₀.scoring ∧ r.state ≠ .closed
  | .presence _ => True

/-- Two works of one channel, of which the first may be carried out before the second without a change to what that one
reads: one is the AGE trigger, during a renewal where the other is the offer timer's expiry, or one is the scoring, and
neither closes the channel. -/
def Compatible (r₀ : Channel) (c : Fin 48) (v w : TickWork) : Prop :=
  ((v = .ageTrigger c ∨ w = .ageTrigger c) ∧ (w = .offerExpiry c → r₀.renewal ≠ .idle)) ∨
    ((v = .score c ∨ w = .score c) ∧ v ≠ .silence c ∧ v ≠ .closingEnd c ∧ w ≠ .silence c)

section
variable {α : Type} {f : Channel → α} (hstart : ∀ r retries nonce, f (Channel.startRenewal r retries nonce) = f r)
  (hwanted : ∀ (r : Channel) (k : Option Cause), f { r with wanted := k } = f r)
include hstart

/-- What neither the start of a renewal nor the flag touches, a trigger leaves. -/
theorem startedIfDue_keeps (r : Channel) (retries : Nat) (nonce : BitVec 64) : f (r.startedIfDue retries nonce) = f r := by
  unfold Channel.startedIfDue
  split
  · exact hstart ..
  · rfl

include hwanted

theorem triggered_keeps (r : Channel) (retries : Nat) (nonce : BitVec 64) (k : Cause) :
    f (r.triggered retries nonce k) = f r := by
  unfold Channel.triggered
  split
  · exact (startedIfDue_keeps hstart (r.note k) retries nonce).trans (hwanted r _)
  · rfl

theorem worked_age_keeps (s : State) (nonce : BitVec 64) (c : Fin 48) (r : Channel) :
    f (s.worked nonce (.ageTrigger c) r) = f r := by
  rw [State.worked]
  split
  · exact triggered_keeps hstart hwanted ..
  · rfl

end

/-- No work but the ends of a channel and its scoring touches what the scoring reads. -/
theorem worked_scoring (s : State) (nonce : BitVec 64) (r : Channel) {v : TickWork} {c : Fin 48}
    (hsilence : v ≠ .silence c) (hclosing : v ≠ .closingEnd c) (hscore : v ≠ .score c) (hv : workChannel v = some c) :
    (s.worked nonce v r).scoring = r.scoring ∧ (r.state ≠ .closed → (s.worked nonce v r).state ≠ .closed) := by
  have htriggered : ∀ (x : Channel) retries k, (x.triggered retries nonce k).scoring = x.scoring :=
    fun x retries k => triggered_keeps (f := Channel.scoring) (fun _ _ _ => rfl) (fun _ _ => rfl) x retries nonce k
  have hstarted : ∀ (x : Channel) retries, (x.startedIfDue retries nonce).scoring = x.scoring :=
    fun x retries => startedIfDue_keeps (f := Channel.scoring) (fun _ _ _ => rfl) x retries nonce
  by_cases hscorable : scorable v = true
  · refine ⟨?_, fun h => by rwa [worked_state s nonce hscorable]⟩
    cases v with
    | keyingEntry | closingEnd | silence | score | presence => cases hscorable
    | ageTrigger d => exact worked_age_keeps (f := Channel.scoring) (fun _ _ _ => rfl) (fun _ _ => rfl) ..
    | holdOffEnd d => exact hstarted ..
    | offerExpiry d =>
      rw [State.worked, Channel.requeueOffer]
      cases r.pendingEntry <;> split_ifs <;> rfl
    | resyncExpiry d =>
      rw [State.worked, Channel.requeueResync]
      split_ifs
      · cases r.challenge <;> rfl
      · exact htriggered r.endExchange ..
      · rfl
    | cutoverExpiry d =>
      rw [State.worked]
      split
      · exact hstarted r.endCutover ..
      · rfl
  · cases v with
    | keyingEntry d =>
      rw [State.worked]
      split
      · refine ⟨htriggered (r.enterKeying _) .., fun _ => ?_⟩
        rw [triggered_state]
        exact ChannelState.noConfusion
      · exact ⟨rfl, id⟩
    | closingEnd d => exact absurd (congrArg _ (Option.some.inj hv)) hclosing
    | silence d => exact absurd (congrArg _ (Option.some.inj hv)) hsilence
    | score d => exact absurd (congrArg _ (Option.some.inj hv)) hscore
    | presence p => cases hv
    | ageTrigger | holdOffEnd | offerExpiry | resyncExpiry | cutoverExpiry => exact absurd rfl hscorable

theorem Kept.offerExpiry {r₀ r : Channel} {c : Fin 48} (h : Kept r₀ r (.offerExpiry c)) :
    r.offerTimer = r₀.offerTimer ∧ r.renewRetries = r₀.renewRetries ∧ r.serving = r₀.serving ∧
      r.offeredEpoch = r₀.offeredEpoch := by
  have hr : r = { r₀ with wanted := r.wanted, quality := r.quality } := h
  exact ⟨(congrArg Channel.offerTimer hr :), (congrArg Channel.renewRetries hr :), (congrArg Channel.serving hr :),
    (congrArg Channel.offeredEpoch hr :)⟩

/-- The fault of a scoring is that of what it reads. -/
theorem Kept.score {r₀ r : Channel} {c : Fin 48} (h : Kept r₀ r (.score c)) (params : QualityParams) :
    r.serving = r₀.serving ∧ r.quality.low = r₀.quality.low ∧
      lowAtPeriodEnd params r.quality = lowAtPeriodEnd params r₀.quality ∧
      r.quality.closePeriod.smoothed = r₀.quality.closePeriod.smoothed := by
  have hscoring : r.scoring = r₀.scoring := h.1
  simp only [Channel.scoring, Prod.mk.injEq] at hscoring
  obtain ⟨hserving, hcounts, hlow, hsmoothed⟩ := hscoring
  have hclosed : r.quality.closePeriod.smoothed = r₀.quality.closePeriod.smoothed := by
    simp only [Quality.closePeriod, hcounts, hsmoothed]
  exact ⟨hserving, hlow, by rw [lowAtPeriodEnd, lowAtPeriodEnd, hclosed, hlow], hclosed⟩

/-- A work leaves on the record what another that is compatible with it reads. -/
theorem Kept.worked {r₀ r : Channel} {c : Fin 48} {v w : TickWork} (h : Kept r₀ r w) (hne : v ≠ w)
    (hv : workChannel v = some c) (hw : workChannel w = some c) (hpair : Compatible r₀ c v w) (s : State)
    (nonce : BitVec 64) : Kept r₀ (s.worked nonce v r) w := by
  cases w with
  | keyingEntry | closingEnd | ageTrigger | holdOffEnd | cutoverExpiry => trivial
  | presence p => cases hw
  | offerExpiry d =>
    obtain rfl := Option.some.inj hw
    have hr : r = { r₀ with wanted := r.wanted, quality := r.quality } := h
    obtain ⟨rfl | hw, hrunning⟩ | ⟨rfl | hw, -⟩ := hpair
    · rw [worked_age_of_running (by rw [hr]; exact hrunning rfl)]
      exact congrArg (fun x : Channel => { x with wanted := r.wantedAfterAge }) hr
    · cases hw
    · rw [State.worked]
      split
      · exact h
      · exact congrArg (Channel.scored s.qualityParams) hr
    · cases hw
  | resyncExpiry d =>
    obtain rfl := Option.some.inj hw
    obtain ⟨rfl | hw, -⟩ | ⟨rfl | hw, -⟩ := hpair
    · have hage := worked_age_keeps (f := fun x : Channel => (x.serving, x.resyncTimer, x.resyncRetries))
        (fun _ _ _ => rfl) (fun _ _ => rfl) s nonce d r
      obtain ⟨hserving, htimer, hretries⟩ := h
      simp only [Prod.mk.injEq] at hage
      obtain ⟨hserving', htimer', hretries'⟩ := hage
      exact ⟨hserving'.trans hserving, htimer'.trans htimer, hretries'.trans hretries⟩
    · cases hw
    · rw [State.worked]
      split <;> exact h
    · cases hw
  | silence d =>
    obtain rfl := Option.some.inj hw
    obtain ⟨rfl | hw, -⟩ | ⟨-, -, -, hno⟩ := hpair
    · have hage := worked_age_keeps (f := fun x : Channel => (x.serving, x.quality))
        (fun _ _ _ => rfl) (fun _ _ => rfl) s nonce d r
      obtain ⟨hserving, hquality⟩ := h
      simp only [Prod.mk.injEq] at hage
      obtain ⟨hserving', hquality'⟩ := hage
      exact ⟨hserving'.trans hserving, hquality'.trans hquality⟩
    · cases hw
    · exact absurd rfl hno
  | score d =>
    obtain rfl := Option.some.inj hw
    have hboth : v ≠ .silence d ∧ v ≠ .closingEnd d := by
      obtain ⟨rfl | hw, -⟩ | ⟨-, hsilence, hclosing, -⟩ := hpair
      · simp
      · cases hw
      · exact ⟨hsilence, hclosing⟩
    obtain ⟨hscoring, hopen⟩ := worked_scoring s nonce r hboth.1 hboth.2 hne hv
    exact ⟨hscoring.trans h.1, hopen h.2⟩

/-- The state u has kept of the state a what the work reads. -/
structure WorkReady (a u : State) (w : TickWork) : Prop where
  record : ∀ c, workChannel w = some c → Kept (a.chan c) (u.chan c) w
  link : ∀ p, w = .presence p → u.link p = a.link p

theorem WorkReady.work {a u : State} {v w : TickWork} (h : WorkReady a u w) (hne : v ≠ w)
    (hpair : ∀ c, workChannel v = some c → workChannel w = some c → Compatible (a.chan c) c v w) :
    WorkReady a (u.work v) w where
  record c hw := by
    by_cases hv : workChannel v = some c
    · rw [work_chan u hv]
      exact (h.record c hw).worked hne hv hw (hpair c hv hw) u _
    · rw [work_chan_of_other u hv]
      exact h.record c hw
  link p hw := (work_link_of_ne u (hw ▸ hne)).trans (h.link p hw)

/-! ## The fault of a work -/

/-- A fault report of channel c, with the serving port of a record (R153). -/
def Channel.report (r : Channel) (k : FaultKind) (c : Fin 48) (detail : Nat) : FaultReport :=
  { kind := k, channel := some c, port := r.serving.map Service.port, detail := BitVec.ofNat 16 detail }

/-- The fault that a due work raises, by the records whose counts have advanced. -/
def State.tickFault (s : State) (kind : TickKind) : TickWork → Option FaultReport
  | .keyingEntry _ => none
  | .closingEnd _ => none
  | .ageTrigger _ => none
  | .holdOffEnd _ => none
  | .offerExpiry c =>
    let r := (s.chan c).tick kind
    if r.renewRetries = 0 then some (r.report .renewFail c r.offeredEpoch) else none
  | .resyncExpiry c =>
    let r := (s.chan c).tick kind
    if r.resyncRetries = 0 then some (r.report .resyncFail c s.renewalParams.retryLimit) else none
  | .cutoverExpiry _ => none
  | .silence c => let r := (s.chan c).tick kind; some (r.report .silent c r.quality.silence)
  | .score c =>
    let r := (s.chan c).tick kind
    if lowAtPeriodEnd s.qualityParams r.quality = r.quality.low then none
    else
      some (r.report (if lowAtPeriodEnd s.qualityParams r.quality then .qualityLow else .qualityOk) c
        r.quality.closePeriod.smoothed)
  | .presence p =>
    some { kind := .portAbsent, channel := none, port := some p, detail := BitVec.ofNat 16 s.presencePeriod }

/-- A report raised, where there is one. -/
def State.raiseReport (v : State) : Option FaultReport → State
  | some f => v.raise f.kind f.channel f.port f.detail.toNat
  | none => v

/-- One work on the log: the port that it finds ABSENT, and the fault that it raises. -/
def State.logged (s : State) (kind : TickKind) (v : State) (w : TickWork) : State :=
  State.raiseReport
    (match w with | .presence p => v.setLink p { v.link p with present := false, timer := 0 } | _ => v) (s.tickFault kind w)

theorem raise_ofNat (v : State) (k : FaultKind) (c : Option (Fin 48)) (p : Option Port) (n : Nat) :
    v.raise k c p (BitVec.ofNat 16 n).toNat = v.raise k c p n := by
  rw [State.raise, BitVec.ofNat_toNat, BitVec.setWidth_eq]
  rfl

/-- The log that a trigger leaves is that of the state before. -/
theorem startIfDue_sameFaults {u v : State} (h : u.SameFaults v) (c : Fin 48) : (u.startIfDue c).SameFaults v := by
  unfold State.startIfDue
  split
  · exact h.of_eq rfl rfl rfl
  · exact h

theorem trigger_sameFaults {u v : State} (h : u.SameFaults v) (c : Fin 48) (k : Cause) :
    (u.trigger c k).SameFaults v := by
  unfold State.trigger
  split
  · exact startIfDue_sameFaults (h.setChan c _) c
  · exact h

theorem removeInbound_sameFaults {u v : State} (h : u.SameFaults v) (c : Fin 48) : (u.removeInbound c).SameFaults v := by
  unfold State.removeInbound
  rcases (u.chan c).serving with _ | q
  · exact h
  · cases q <;> exact h.of_eq rfl rfl rfl

/-- A due work that finds what it reads leaves the log that its fault leaves. -/
theorem work_sameFaults {s u v : State} {kind : TickKind} {w : TickWork} (halike : s.Alike u)
    (hdue : w ∈ s.dueWorks kind) (hready : WorkReady (s.advance kind) u w) (h : u.SameFaults v) :
    (u.work w).SameFaults (s.logged kind v w) := by
  have hkept : ∀ c, workChannel w = some c → Kept ((s.chan c).tick kind) (u.chan c) w := fun c hc => by
    rw [← advance_chan]
    exact hready.record c hc
  have hcond := (mem_works ..).mp hdue
  cases w with
  | keyingEntry c =>
    simp only [State.work, State.keyingEntry]
    split
    · exact trigger_sameFaults (h.setChan c _) c .initial
    · exact h
  | closingEnd c =>
    simp only [State.work, State.closingEnd]
    split
    · exact h.of_eq rfl rfl rfl
    · exact h
  | ageTrigger c =>
    simp only [State.work, State.judgeAge]
    split
    · exact trigger_sameFaults h c .age
    · exact h
  | holdOffEnd c => exact startIfDue_sameFaults h c
  | cutoverExpiry c =>
    simp only [State.work, cutoverExpired_eq]
    split
    · exact startIfDue_sameFaults (h.setChan c _) c
    · exact h
  | offerExpiry c =>
    obtain ⟨htimer, hretries, hserving, hepoch⟩ := (hkept c rfl).offerExpiry
    have htimer : (u.chan c).offerTimer = some 0 := by
      rw [htimer, ← advance_chan]
      exact hcond.2
    rw [State.work, offerExpired_written halike, if_neg (not_not.mpr htimer), hretries]
    simp only [State.logged, State.tickFault]
    split
    · rw [State.raiseReport, Channel.report, raise_ofNat, State.raiseFor, hserving, hepoch]
      exact (h.raise ..).setChan c _
    · exact h.setChan c _
  | resyncExpiry c =>
    obtain ⟨hserving, htimer, hretries⟩ : _ ∧ _ ∧ _ := hkept c rfl
    have htimer : (u.chan c).resyncTimer = some 0 := by
      rw [htimer, ← advance_chan]
      exact hcond.2
    rw [State.work, resyncExpired_written halike, if_neg (not_not.mpr htimer), hretries]
    simp only [State.logged, State.tickFault]
    split
    · rw [State.raiseReport, Channel.report, raise_ofNat, State.raiseFor, hserving]
      exact trigger_sameFaults ((h.raise ..).setChan c _) c .resync
    · exact h.setChan c _
  | silence c =>
    obtain ⟨hserving, hquality⟩ : _ ∧ _ := hkept c rfl
    have hsilent : (u.chan c).quality.silent u.qualityParams.silenceLimit = true := by
      rw [hquality, halike.qualityParams, ← advance_chan]
      exact hcond.2
    rw [State.work, State.judgeSilence, if_pos hsilent, closeNow_eq, State.raiseFor, hserving, hquality]
    simp only [State.logged, State.tickFault, State.raiseReport, Channel.report, raise_ofNat]
    exact (removeInbound_sameFaults (h.raise ..) c).setChan c _
  | score c =>
    obtain ⟨hserving, hflag, hlow, hsmoothed⟩ := (hkept c rfl).score s.qualityParams
    rw [State.work, scoreChannel_written halike, if_neg (hkept c rfl).2, hlow, hflag]
    simp only [State.logged, State.tickFault]
    split
    · exact h.setChan c _
    · rw [State.raiseReport, Channel.report, raise_ofNat, State.raiseFor, chan_setChan_same, hsmoothed, raise_setChan]
      change ((u.raise _ _ ((u.chan c).serving.map Service.port) _).setChan c _).SameFaults _
      rw [hserving]
      exact (h.raise ..).setChan c _
  | presence p =>
    have hlink : u.link p = (s.advance kind).link p := hready.link p rfl
    have hexpired : (u.link p).present = true ∧ s.presencePeriod ≤ (u.link p).timer := by
      have hexpired : (s.advance kind).presenceDue p = true := hcond
      rw [State.presenceDue, Bool.and_eq_true, decide_eq_true_iff] at hexpired
      exact hlink ▸ hexpired
    rw [State.work, presenceExpired_written halike, if_pos hexpired]
    simp only [State.logged, State.tickFault, State.raiseReport, raise_ofNat]
    exact (h.setAbsent p).raise ..

/-- A list of works of the tick, each once and compatible with the others, that find in the state u what they read. -/
structure ReadyWorks (s : State) (kind : TickKind) (u : State) (ws : List TickWork) : Prop where
  alike : s.Alike u
  due : ∀ w ∈ ws, w ∈ s.dueWorks kind
  nodup : ws.Nodup
  ready : ∀ w ∈ ws, WorkReady (s.advance kind) u w
  pair : ∀ v ∈ ws, ∀ w ∈ ws, v ≠ w → ∀ c, workChannel v = some c → workChannel w = some c →
    Compatible ((s.advance kind).chan c) c v w

theorem ReadyWorks.tail {s u : State} {kind : TickKind} {w : TickWork} {ws : List TickWork}
    (h : ReadyWorks s kind u (w :: ws)) : ReadyWorks s kind (u.work w) ws := by
  obtain ⟨hw, hnodup⟩ := List.nodup_cons.mp h.nodup
  have hne : ∀ x ∈ ws, w ≠ x := fun x hx e => hw (e ▸ hx)
  have htail : ∀ x ∈ ws, x ∈ w :: ws := fun x hx => List.mem_cons_of_mem w hx
  exact {
    alike := h.alike.work w
    due := fun x hx => h.due x (htail x hx)
    nodup := hnodup
    ready := fun x hx =>
      (h.ready x (htail x hx)).work (hne x hx) (h.pair w List.mem_cons_self x (htail x hx) (hne x hx))
    pair := fun x hx y hy => h.pair x (htail x hx) y (htail y hy) }

/-- The works of a list leave the log that their faults leave one after the other. -/
theorem carryOut_sameFaults {s u v : State} {kind : TickKind} {ws : List TickWork} (hws : ReadyWorks s kind u ws)
    (h : u.SameFaults v) : (u.carryOut ws).SameFaults (ws.foldl (s.logged kind) v) := by
  induction ws generalizing u v with
  | nil => exact h
  | cons w ws ih =>
    have hmem : w ∈ w :: ws := List.mem_cons_self
    exact ih hws.tail (work_sameFaults hws.alike (hws.due w hmem) (hws.ready w hmem) h)

/-! ## The delivered cells -/

theorem startIfDue_inbound (s : State) (c : Fin 48) (q : Service) : (s.startIfDue c).inbound q = s.inbound q := by
  unfold State.startIfDue
  split <;> simp

theorem trigger_inbound (s : State) (c : Fin 48) (k : Cause) (q : Service) :
    (s.trigger c k).inbound q = s.inbound q := by
  unfold State.trigger
  split
  · rw [startIfDue_inbound, modChan_inbound]
  · rfl

/-- A work other than a closure by silence leaves the delivered cells. -/
theorem work_inbound_of_ne (s : State) {w : TickWork} (h : ∀ c, w ≠ .silence c) (q : Service) :
    (s.work w).inbound q = s.inbound q := by
  cases w with
  | silence c => exact absurd rfl (h c)
  | keyingEntry c =>
    simp only [State.work, State.keyingEntry]
    split <;> simp [trigger_inbound]
  | closingEnd c =>
    simp only [State.work, State.closingEnd]
    split <;> simp
  | ageTrigger c =>
    simp only [State.work, State.judgeAge]
    split <;> simp [trigger_inbound]
  | holdOffEnd c => exact startIfDue_inbound ..
  | offerExpiry c =>
    simp only [State.work, State.offerExpired, State.failRenewal]
    split_ifs <;> simp
  | resyncExpiry c =>
    simp only [State.work, State.resyncExpired]
    split_ifs <;> simp [trigger_inbound]
  | cutoverExpiry c =>
    simp only [State.work, cutoverExpired_eq]
    split <;> simp [startIfDue_inbound]
  | score c =>
    rw [State.work, scoreChannel_written (.refl s)]
    split_ifs <;> simp
  | presence p =>
    simp only [State.work, State.presenceExpired]
    split <;> simp

/-- A closure by silence removes the channel's cells from the queue of its serving port (R12, R148). -/
theorem work_silence_inbound {s u : State} {kind : TickKind} {c : Fin 48} (halike : s.Alike u)
    (hdue : .silence c ∈ s.dueWorks kind) (hready : WorkReady (s.advance kind) u (.silence c)) (q : Service) :
    (u.work (.silence c)).inbound q =
      (u.inbound q).filter (fun x => !(decide (x.channel = c) && decide ((s.chan x.channel).serving = some q))) := by
  obtain ⟨hserving, hquality⟩ : _ ∧ _ := hready.record c rfl
  have hsilent : (u.chan c).quality.silent u.qualityParams.silenceLimit = true := by
    rw [hquality, halike.qualityParams]
    exact ((mem_works ..).mp hdue).2
  have hsame : (u.chan c).serving = (s.chan c).serving := by
    rw [hserving, advance_chan]
    cases kind <;> rfl
  rw [State.work, State.judgeSilence, if_pos hsilent, closeNow_inbound, raiseFor_inbound]
  refine List.filter_congr fun x _ => ?_
  by_cases hx : x.channel = c
  · rw [raiseFor_chan, hx, hsame]
  · simp [hx]

/-- The cells that the closures by silence of a list leave in a port's queue. -/
theorem carryOut_inbound {s u : State} {kind : TickKind} {ws : List TickWork} (hws : ReadyWorks s kind u ws)
    (q : Service) :
    (u.carryOut ws).inbound q =
      (u.inbound q).filter
        (fun x => !(decide (.silence x.channel ∈ ws) && decide ((s.chan x.channel).serving = some q))) := by
  induction ws generalizing u with
  | nil => simp
  | cons w ws ih =>
    have hmem : w ∈ w :: ws := List.mem_cons_self
    rw [carryOut_cons, ih hws.tail]
    by_cases hw : ∃ c, w = .silence c
    · obtain ⟨c, rfl⟩ := hw
      rw [work_silence_inbound hws.alike (hws.due _ hmem) (hws.ready _ hmem), List.filter_filter]
      refine List.filter_congr fun x _ => ?_
      by_cases hx : x.channel = c
      · subst hx
        by_cases hserving : (s.chan x.channel).serving = some q <;> simp [hserving]
      · simp [hx]
    · rw [work_inbound_of_ne u fun c e => hw ⟨c, e⟩]
      refine List.filter_congr fun x _ => ?_
      have hne : TickWork.silence x.channel ≠ w := fun e => hw ⟨_, e.symm⟩
      simp [hne]

/-! ## The works of a tick that leave each other what they read -/

theorem workReady_advance {s : State} {kind : TickKind} {w : TickWork} (h : w ∈ s.dueWorks kind) :
    WorkReady (s.advance kind) (s.advance kind) w where
  record c hc := by
    have hcond := (mem_works ..).mp h
    cases w with
    | keyingEntry | closingEnd | ageTrigger | holdOffEnd | cutoverExpiry | presence => trivial
    | offerExpiry d => exact (rfl : (s.advance kind).chan c = _)
    | resyncExpiry d => exact ⟨rfl, rfl, rfl⟩
    | silence d => exact ⟨rfl, rfl⟩
    | score d =>
      obtain rfl := Option.some.inj hc
      exact ⟨rfl, hcond.2⟩
  link _ _ := rfl

/-- The works of a tick, in any order, where each two of one channel are compatible. -/
theorem readyWorks_tick {s : State} {kind : TickKind} (order : List TickWork)
    (h : ∀ v ∈ s.dueWorks kind, ∀ w ∈ s.dueWorks kind, v ≠ w → ∀ c, workChannel v = some c → workChannel w = some c →
      Compatible ((s.chan c).tick kind) c v w) :
    ReadyWorks s kind (s.advance kind) (inOrder order (s.dueWorks kind)) where
  alike := ⟨rfl, rfl, rfl, rfl⟩
  due _ hw := mem_inOrder.mp hw
  nodup := (inOrder_perm order _).nodup_iff.mpr (works_nodup ..)
  ready _ hw := workReady_advance (mem_inOrder.mp hw)
  pair v hv w hw hne c := by
    rw [advance_chan]
    exact h v (mem_inOrder.mp hv) w (mem_inOrder.mp hw) hne c

/-- The fault of a due work, by the records before the tick. -/
theorem tickFault_eq (s : State) (kind : TickKind) (w : TickWork) :
    s.tickFault kind w =
      match w with
      | .offerExpiry c =>
        if (s.chan c).renewRetries = 0 then some ((s.chan c).report .renewFail c (s.chan c).offeredEpoch) else none
      | .resyncExpiry c =>
        if (s.chan c).resyncRetries = 0 then some ((s.chan c).report .resyncFail c s.renewalParams.retryLimit) else none
      | .silence c => some ((s.chan c).report .silent c ((s.chan c).tick kind).quality.silence)
      | .score c =>
        if lowAtPeriodEnd s.qualityParams (s.chan c).quality = (s.chan c).quality.low then none
        else
          some ((s.chan c).report (if lowAtPeriodEnd s.qualityParams (s.chan c).quality then .qualityLow else .qualityOk) c
            (s.chan c).quality.closePeriod.smoothed)
      | .presence p =>
        some { kind := .portAbsent, channel := none, port := some p, detail := BitVec.ofNat 16 s.presencePeriod }
      | _ => none := by
  cases kind <;> cases w <;> rfl

end Sys2Proof.Machine
end

section
/-! PROOFS. Every count that a tick advances, and the works that it brings (R27, R28). -/

namespace Sys2Proof.Machine

/-- Settles O32: the works of the tick are taken in the order that `inOrder` gives, and what comes together on one record is
worked out from the works of that record. -/
theorem ticksAdvanceEveryCount : Obligations.TicksAdvanceEveryCount := by
  unfold Obligations.TicksAdvanceEveryCount
  intro s kind order t period counted n score smoothed low scored keyed silent due aged raised startsIfDue after
  have hcounted : counted = fun c => (s.chan c).tick kind := funext fun c => (tick_eq_counts kind _).symm
  clear_value counted
  subst hcounted
  have hscored : ∀ c, scored c = s.afterPeriod kind c := fun c => by
    rw [afterPeriod_eq]
    cases kind <;> rfl
  have haged : ∀ x, aged x = x.ageReached := fun _ => rfl
  have hdue : ∀ w, due w ↔ w ∈ s.dueWorks kind := by
    intro w
    refine Iff.trans ?_ (mem_dueWorks s kind w).symm
    cases w <;> rfl
  have hstarts : ∀ u c, s.Alike u → startsIfDue u c = u.startIfDue c := fun u c hu => (startIfDue_written hu c).symm
  have hafter : ∀ u w, s.Alike u → after u w = u.work w := by
    intro u w hu
    cases w with
    | keyingEntry c =>
      refine Eq.trans ?_ (congrArg (fun base => if (u.chan c).state = .opening then
        (u.modChan c (·.enterKeying base)).trigger c .initial else u) (derivedBase_written u c)).symm
      rfl
    | closingEnd c => rfl
    | ageTrigger c => rfl
    | holdOffEnd c => exact hstarts u c hu
    | offerExpiry c => exact (offerExpired_written hu c).symm
    | resyncExpiry c => exact (resyncExpired_written hu c).symm
    | cutoverExpiry c =>
      have hended : startsIfDue (u.setChan c (u.chan c).endCutover) c =
          (u.setChan c (u.chan c).endCutover).startIfDue c :=
        hstarts _ c ⟨hu.renewalParams, hu.qualityParams, hu.presencePeriod, hu.masters⟩
      change (match (u.chan c).previous with
        | some p => if p.cutover = 0 then startsIfDue (u.setChan c (u.chan c).endCutover) c else u
        | none => u) = u.cutoverExpired c
      rw [hended]
      rfl
    | silence c => exact (silence_written hu c).symm
    | score c => exact (scoreChannel_written hu c).symm
    | presence p => exact (presenceExpired_written hu p).symm
  have htimebase : t.timebase = { s.timebase with tick := s.timebase.tick + 1 } := tick_timebase s kind order
  have hsequencer : t.sequencer = s.sequencer.applyPending := tick_sequencer s kind order
  have hperiodTimer : t.periodTimer = s.periodAfter := (carryOut_blocks (s.advance kind) _).2.2.2.2.2.2.2.1
  have hnodup : (inOrder order (s.dueWorks kind)).Nodup := (inOrder_perm order _).nodup_iff.mpr (works_nodup ..)
  have hworks : ∀ w, w ∈ inOrder order (s.dueWorks kind) ↔ due w := fun w => mem_inOrder.trans (hdue w).symm
  have horder : order.Nodup → (∀ w, w ∈ order ↔ due w) → inOrder order (s.dueWorks kind) = order :=
    fun hn hall => inOrder_of_all hn (works_nodup ..) fun w => (hall w).trans (hdue w)
  refine ⟨?_, ?_, ?_, fun c => ?_, ?_, ?_⟩
  · have hperiod : s.periodAfter = if s.qualityParams.period ≤ period then 0 else period := by
      rw [State.periodAfter, State.periodDue, bump_eq]
      simp only [decide_eq_true_iff]
      rfl
    refine (carryOut_parts (s.advance kind) _).trans ?_
    rw [← hperiod, hsequencer]
    rfl
  · intro slot
    rw [hsequencer]
    exact applyPending_map s.sequencer slot.val slot.isLt
  · exact tick_link s kind order
  · intro r alone beside reached wanted startsAmong starts
    have hr : s.afterPeriod kind c = r := (hscored c).symm
    clear_value r
    have hstate : r.state = (s.chan c).state := by rw [← hr, afterPeriod_state]
    have hkeyed : keyed c ↔ r.state = .keying ∨ r.state = .active := by rw [hstate]
    have hin : ∀ {w : TickWork → Prop}, (∀ v, workChannel v = some c → due v → w v) →
        ∀ v ∈ s.dueWorks kind, workChannel v = some c → w v := fun h v hv hc => h v hc ((hdue v).mpr hv)
    have hstart : due (.holdOffEnd c) ↔ r.startDue = true :=
      (hdue (.holdOffEnd c)).trans (hr ▸ holdOffEnd_mem_dueWorks s kind c)
    have hnone : (∀ v, workChannel v = some c → due v → v ≠ .holdOffEnd c) → r.startDue = false :=
      fun h => Bool.eq_false_iff.mpr fun hs => h _ rfl (hstart.mpr hs) rfl
    have hbeside : ∀ w, due w → workChannel w = some c → scorable w = true → w ≠ .ageTrigger c →
        (∀ v, workChannel v = some c → due v → v = w ∨ v = .ageTrigger c ∨ v = .score c) →
        s.WorksBeside c w r (t.chan c) := fun w hw hc hscorable hne hb => by
      rw [← hr]
      exact tick_worksBeside order ((hdue w).mp hw) hc hscorable hne (hin hb)
    refine ⟨fun h => ?_, fun h => ?_, fun h hb => ?_, fun p h ha hp => ?_, fun x h hx => ?_, fun h ha => ?_, fun h => ?_⟩
    · rw [← hr]
      exact tick_chan_of_none order (hin h)
    · obtain ⟨hw, hb⟩ := h
      have hage : r.ageReached = true :=
        hr ▸ (ageTrigger_mem_dueWorks s kind c).mp ((hdue (.ageTrigger c)).mp hw)
      obtain ⟨m, hm, ht⟩ := tick_chan_of_age order ((hdue (.ageTrigger c)).mp hw) (hin hb)
      obtain ⟨hnot, hstart, hflag⟩ := worked_age_alone hage
        (hnone fun v hc hv => by rcases hb v hc hv with rfl | rfl <;> simp) s m c
      rw [hr] at ht
      exact ⟨fun hk => ht.trans (hnot (mt hkeyed.mpr hk)),
        fun hk hi hh => ⟨m, hm, (ht.trans (hstart (hkeyed.mp hk) hi hh)).trans (startRenewal_written ..)⟩,
        fun hk hor => ht.trans (hflag (hkeyed.mp hk) hor)⟩
    · obtain ⟨m, hm, ht⟩ := WorksBeside.holdOffEnd (hbeside _ h rfl rfl (by simp) hb) (hstart.mp h)
      exact ⟨m, hm, ht.trans (startRenewal_written ..)⟩
    · obtain ⟨hw, hb⟩ := h
      have htimer : r.offerTimer = some 0 := hr ▸ offerTimer_of_mem_dueWorks s kind c ((hdue (.offerExpiry c)).mp hw)
      have hworks := hbeside (.offerExpiry c) hw rfl rfl (by simp) hb
      refine ⟨fun hretries => ?_, fun hretries => ?_⟩
      · refine (WorksBeside.offerExpiry_again hworks htimer hretries fun hage => (ha hage).1).trans ?_
        exact requeueOffer_of_pending (r := r.agedFlag) hp
      · exact (WorksBeside.offerExpiry_failed hworks htimer hretries ha).trans (failRenewal_standing hretries _)
    · obtain ⟨hw, hb⟩ := h
      have htimer : r.resyncTimer = some 0 :=
        hr ▸ resyncTimer_of_mem_dueWorks s kind c ((hdue (.resyncExpiry c)).mp hw)
      have hworks := hbeside (.resyncExpiry c) hw rfl rfl (by simp) hb
      have hnone := hnone fun v hc hv => by rcases hb v hc hv with rfl | rfl | rfl <;> simp
      have htriggerable : r.triggerable = true ↔ keyed c := by rw [triggerable_iff, hkeyed]
      refine ⟨fun hretries => ?_, fun hretries => ?_⟩
      · intro sent
        obtain ⟨hwait, hstarts⟩ := WorksBeside.resyncExpiry_sent hworks htimer hretries hnone hx (sent := sent) rfl
        refine ⟨hwait, fun hyes hidle hhold => ?_⟩
        obtain ⟨m, hm, hfirst | hlast⟩ := hstarts hyes hidle hhold
        · exact .inl ⟨m, hm, hfirst.trans (startRenewal_written ..)⟩
        · exact .inr ⟨m, hm, hlast⟩
      · intro ended
        obtain ⟨hnot, hidle, hrunning⟩ := WorksBeside.resyncExpiry_ended hworks htimer hretries
        rw [endExchange_of_spent hretries] at hnot hidle hrunning
        refine ⟨fun hno => ?_, fun hk hi => ?_, fun hk hi => ?_⟩
        · exact hnot (Bool.eq_false_iff.mpr (mt htriggerable.mp hno))
        · obtain ⟨m, hm, ht⟩ := hidle (htriggerable.mpr hk) hi
          exact ⟨m, hm, ht.trans (startRenewal_written ..)⟩
        · exact hrunning (htriggerable.mpr hk) hi
    · obtain ⟨hw, hb⟩ := h
      have hcut : r.cutoverDue = true := hr ▸ cutoverDue_of_mem_dueWorks s kind c ((hdue (.cutoverExpiry c)).mp hw)
      have hworks := hbeside (.cutoverExpiry c) hw rfl rfl (by simp) hb
      intro ended
      obtain ⟨hstarts, hwait⟩ := WorksBeside.cutoverExpiry_ended hworks hcut ha (ended := ended) rfl
      refine ⟨fun k hk hk' hor => ?_, fun hno => hwait (hno.imp_right (Or.imp_left (mt hkeyed.mpr)))⟩
      obtain ⟨m, hm, ht⟩ := hstarts k hk (hkeyed.mp hk') hor
      exact ⟨m, hm, ht.trans (startRenewal_written ..)⟩
    · exact tick_chan_of_silence order ((hdue (.silence c)).mp h.1) (hin h.2)
  · refine ⟨inOrder order (s.dueWorks kind), s.advance kind, hnodup, hworks, horder, ?_, fun c => advance_chan .., ?_,
      ?_⟩
    · rw [htimebase, hsequencer, hperiodTimer]
      rfl
    · intro p
      rw [advance_link, PortLink.tick, bump_eq]
      split <;> rfl
    · exact (foldl_eq_carryOut (s := s) (u := s.advance kind) hafter _ ⟨rfl, rfl, rfl, rfl⟩).symm
  · intro hsingle
    have hready := readyWorks_tick (s := s) (kind := kind) order fun v hv w hw hne c hvc hwc => by
      have hrenewal : ((s.chan c).tick kind).renewal = (s.chan c).renewal := by
        rw [tick_eq_counts]
      have hv := (hdue v).mpr hv
      have hw := (hdue w).mpr hw
      rcases hsingle c v w hvc hwc hv hw with rfl | ⟨hage, hrunning⟩ | ⟨hscore, hsilent, hclosing⟩
      · exact absurd rfl hne
      · exact .inl ⟨hage, by rintro rfl; rw [hrenewal]; exact hrunning hw⟩
      · exact .inr ⟨hscore, by rintro rfl; exact hsilent hv, by rintro rfl; exact hclosing hv,
          by rintro rfl; exact hsilent hw⟩
    refine ⟨fun q => ?_, ?_⟩
    · refine (carryOut_inbound hready q).trans ?_
      rw [advance_inbound]
      refine List.filter_congr fun x _ => ?_
      have hsilent : decide (TickWork.silence x.channel ∈ inOrder order (s.dueWorks kind)) = silent x.channel :=
        Bool.eq_iff_iff.mpr (decide_eq_true_iff.trans (hworks (.silence x.channel)))
      rw [hsilent]
    · intro report fault logged
      have hfault : ∀ w, fault w = s.tickFault kind w := fun w => by
        refine Eq.trans ?_ (tickFault_eq s kind w).symm
        cases w <;> rfl
      have hlogged : logged = s.logged kind := by
        funext v w
        unfold State.logged
        rw [← hfault w]
        cases w <;> rfl
      refine ⟨inOrder order (s.dueWorks kind), hnodup, hworks, horder, ?_⟩
      have hstart : (s.advance kind).SameFaults { s with timebase := t.timebase } := by
        refine ⟨rfl, by rw [htimebase]; rfl, fun p => ?_⟩
        rw [advance_link, PortLink.tick]
        split <;> cases p <;> exact ⟨rfl, rfl⟩
      rw [hlogged]
      exact (carryOut_sameFaults hready hstart).log

end Sys2Proof.Machine
end
